-- ==== Sys2Proof/Word.lean ====
section
/-! DEFINITION. The word types of the MMW-FCC block (00_scope.md R9): a byte is 8 bits, `u16` fields and the
checksum are 16 bits, and every register is 32 bits wide at the bus (10_state.md R20). -/

namespace Sys2Proof

/-- A byte: 8 bits (R9). -/
abbrev Byte := BitVec 8

/-- A 16-bit number: `srcId`, `dstId`, the checksum, the two magic bytes (R86). -/
abbrev Half := BitVec 16

/-- A 32-bit bus word: a register access, a command word (R20, R80). -/
abbrev Word := BitVec 32

end Sys2Proof
end

