-- ==== Sys2Proof/Syntax.lean ====
section
/-! DEFINITION. The command set: one constructor for every row of spec/opcode_table.json (30_encoding.md R82). -/

namespace Sys2Proof

/-- A command of the block, the analogue of an instruction (R12, R82). The operand forms are those of R84: a data
byte, a byte offset and a byte count; every other operand stands in a register. -/
inductive Instr where
  /-- NOP, 43_control.md R190. -/
  | nop
  /-- CRC_INIT, 40_crc.md R102. -/
  | crcInit
  /-- CRC_BYTE data, 40_crc.md R103. -/
  | crcByte (data : Byte)
  /-- CRC_FBUF off, len, 40_crc.md R104. -/
  | crcFbuf (off len : Nat)
  /-- CRC_PBUF off, len, 40_crc.md R105. -/
  | crcPbuf (off len : Nat)
  /-- ENCODE, 41_frame_codec.md R120. -/
  | encode
  /-- DECODE, 41_frame_codec.md R130. -/
  | decode
  /-- KEY_LOAD, 42_cipher.md R170. -/
  | keyLoad
  /-- KEY_CLEAR, 42_cipher.md R171. -/
  | keyClear
  /-- CTR_PBUF, 42_cipher.md R172. -/
  | ctrPbuf
  /-- AES_BLOCK, 42_cipher.md R173. -/
  | aesBlock
deriving DecidableEq, Repr

end Sys2Proof
end

