-- ==== Sys2Proof/WellFormed.lean ====
section
/-! DEFINITION. Which commands can be written as a command word: an argument must fit in its 8-bit field
(30_encoding.md R80, R90). -/

namespace Sys2Proof

/-- R90: "an argument must fit in 8 bits". -/
def fitsField (n : Nat) : Bool := decide (n < 256)

/-- The check on a command as syntax: each of its arguments fits the field A or B that R80 gives it. -/
def Instr.wellFormed : Instr → Bool
  | .nop => true
  | .crcInit => true
  | .crcByte _ => true
  | .crcFbuf off len => fitsField off && fitsField len
  | .crcPbuf off len => fitsField off && fitsField len
  | .encode => true
  | .decode => true
  | .keyLoad => true
  | .keyClear => true
  | .ctrPbuf => true
  | .aesBlock => true

end Sys2Proof
end

