-- ==== Sys2Proof/Decode.lean ====
section
/-! DEFINITION. The command word (30_encoding.md R80-R85): its fields, its validity, the decoder and the encoder. The
decoder is a function of the word alone (R81, R85) and rejects by name. -/

namespace Sys2Proof

/-- OP = w[7:0] (R80). -/
def opField (w : Word) : Nat := (w.extractLsb' 0 8).toNat

/-- A = w[15:8] (R80), an unsigned number (R84). -/
def aField (w : Word) : Nat := (w.extractLsb' 8 8).toNat

/-- B = w[23:16] (R80), an unsigned number (R84). -/
def bField (w : Word) : Nat := (w.extractLsb' 16 8).toNat

/-- RSV = w[31:24] (R80). -/
def rsvField (w : Word) : Nat := (w.extractLsb' 24 8).toNat

/-- Why a word is invalid: the three conditions of R81. -/
inductive DecodeError where
  /-- OP is in none of the rows of R82 (R83). -/
  | reservedOpcode
  /-- RSV is not 0 (R81 (2)). -/
  | reservedFieldNonzero
  /-- An argument field that the opcode's row marks 0 is not 0 (R81 (3)). -/
  | argumentNonzero
deriving DecidableEq, Repr

/-- What decoding a word answers. -/
inductive Decoded where
  /-- The word is valid and stands for this command. -/
  | instr (i : Instr)
  /-- The word is invalid (R81), for this reason. -/
  | rejected (why : DecodeError)
deriving DecidableEq, Repr

/-- A row of R82 that marks a field 0: the command, if the field is 0. -/
def requireZero (field : Nat) (row : Decoded) : Decoded :=
  if field = 0 then row else .rejected .argumentNonzero

/-- The rows of R82: the command of an opcode with arguments A and B. -/
def decodeRow (op a b : Nat) : Decoded :=
  match op with
  | 0x00 => requireZero a (requireZero b (.instr .nop))
  | 0x01 => requireZero a (requireZero b (.instr .crcInit))
  | 0x02 => requireZero b (.instr (.crcByte (BitVec.ofNat 8 a)))
  | 0x03 => .instr (.crcFbuf a b)
  | 0x04 => .instr (.crcPbuf a b)
  | 0x10 => requireZero a (requireZero b (.instr .encode))
  | 0x11 => requireZero a (requireZero b (.instr .decode))
  | 0x20 => requireZero a (requireZero b (.instr .keyLoad))
  | 0x21 => requireZero a (requireZero b (.instr .keyClear))
  | 0x22 => requireZero a (requireZero b (.instr .ctrPbuf))
  | 0x23 => requireZero a (requireZero b (.instr .aesBlock))
  | _ => .rejected .reservedOpcode

/-- The decoder of command words (R80-R85), total on 32-bit words. -/
def decode (w : Word) : Decoded :=
  if rsvField w = 0 then decodeRow (opField w) (aField w) (bField w)
  else .rejected .reservedFieldNonzero

/-- The word with fields OP, A, B and RSV = 0: `w = RSV<<24 | B<<16 | A<<8 | OP` (R80). -/
def commandWord (op a b : Nat) : Word := BitVec.ofNat 32 (b * 2 ^ 16 + a * 2 ^ 8 + op)

/-- The encoder: the command word of a well-formed command (R80, R82, R90). -/
def encode : Instr → Word
  | .nop => commandWord 0x00 0 0
  | .crcInit => commandWord 0x01 0 0
  | .crcByte data => commandWord 0x02 data.toNat 0
  | .crcFbuf off len => commandWord 0x03 off len
  | .crcPbuf off len => commandWord 0x04 off len
  | .encode => commandWord 0x10 0 0
  | .decode => commandWord 0x11 0 0
  | .keyLoad => commandWord 0x20 0 0
  | .keyClear => commandWord 0x21 0 0
  | .ctrPbuf => commandWord 0x22 0 0
  | .aesBlock => commandWord 0x23 0 0

/-- The instruction read from the `nbits` low bits of `w`, every bit above them 0. The block takes a command as one
32-bit bus write (R85), so the word goes to the decoder whole; more than 32 bits are no command word. -/
def decodeTableWord (nbits w : Nat) : Option Instr :=
  if w % 2 ^ nbits < 2 ^ 32 then
    match decode (BitVec.ofNat 32 (w % 2 ^ nbits)) with
    | .instr i => some i
    | .rejected _ => none
  else none

end Sys2Proof
end

