-- ==== Sys2Proof/Machine/Bytes.lean ====
section
/-! DEFINITION. Byte strings (00_scope.md R9): big-endian strings of numbers, their values, and bytewise exclusive or. -/

namespace Sys2Proof.Machine

/-- `BE_n(v)`: the n-byte big-endian string of v, most significant byte first (R9). -/
def be : (n : Nat) → (v : Nat) → List Byte
  | 0, _ => []
  | n + 1, v => BitVec.ofNat 8 (v / 256 ^ n) :: be n v

/-- `beval(S)`: the number whose big-endian string is S (R9). -/
def beval (bs : List Byte) : Nat := bs.foldl (fun v b => v * 256 + b.toNat) 0

/-- `⊕` on two byte strings of equal length, byte by byte (R9). -/
def xorBytes (xs ys : List Byte) : List Byte := List.zipWith (· ^^^ ·) xs ys

/-- The 32-bit word whose bytes these are, the first in bits 31:24 (20_memory.md R66). -/
def wordOfBytes (bs : List Byte) : Word := BitVec.ofNat 32 (beval bs)

/-- The 16-bit number whose big-endian bytes these are (20_memory.md R65). -/
def halfOfBytes (bs : List Byte) : Half := BitVec.ofNat 16 (beval bs)

/-- The four bytes of a bus word, bits 31:24 first (20_memory.md R66). -/
def bytesOfWord (w : Word) : List Byte := be 4 w.toNat

/-- The two bytes of a 16-bit number, high byte first (20_memory.md R65). -/
def bytesOfHalf (h : Half) : List Byte := be 2 h.toNat

end Sys2Proof.Machine
end

