-- ==== Sys2Proof/Config.lean ====
section
/-! DEFINITION. What an implementation fixes: the constants of 00_scope.md R6, the open parameters of R7 and the
free values of R242 and R251. The open parameters and the free values have no body, so no proof can see a value. -/

namespace Sys2Proof.Config

/-- MAX_PAYLOAD (R6). -/
abbrev maxPayload : Nat := 120

/-- HDR_LEN (R6). -/
abbrev hdrLen : Nat := 21

/-- CRC_LEN (R6). -/
abbrev crcLen : Nat := 2

/-- MAX_FRAME (R6): 21 + 120 + 2. -/
abbrev maxFrame : Nat := 143

/-- DEC_PREFILTER (R6). -/
abbrev decPrefilter : Nat := 22

/-- FBUF_BYTES (R6). -/
abbrev fbufBytes : Nat := 144

/-- PBUF_BYTES (R6). -/
abbrev pbufBytes : Nat := 120

/-- WINDOW_BYTES (R6). -/
abbrev windowBytes : Nat := 0x400

/-- CRC_INIT, the start value of the checksum (R6). -/
def crcInit : Half := 0xFFFF

/-- CRC_POLY, the generator polynomial without its x^16 term (R6). -/
def crcPoly : Half := 0x1021

/-- The constant the ID register reads (10_state.md R22). -/
def idValue : Word := 0x46434331

/-- P_BASE: the host address of the register window, an open parameter (R7, U11; notes/assumptions/5). -/
opaque pBase : Nat

/-- P_MAGIC: the two magic bytes, byte 0 in bits 15:8, an open parameter (R7, U11; notes/assumptions/4). -/
opaque pMagic : Half

/-- P_VERSION: the version byte, an open parameter (R7, U11; notes/assumptions/4). -/
opaque pVersion : Byte

/-- P_PTYPES: the four plaintext type codes, an open parameter (R7, U11; notes/assumptions/4). -/
opaque pPtypes : Word

/-- The free draw of a buffer byte at a reset (R242, U1): the byte at the given window offset after the reset of the
given number, until something writes it (notes/assumptions/8). -/
opaque bufferDraw : (resetNumber : Nat) → (offset : Nat) → Byte

/-- The free draw of a forbidden read while busy (R251, U2): a fresh word for every such read
(notes/assumptions/10). -/
opaque busyReadDraw : (readNumber : Nat) → Word

end Sys2Proof.Config
end

