-- ==== Sys2Proof/Machine/State.lean ====
section
/-! DEFINITION. The machine's state as plain data (10_state.md R20-R45), its result codes and its one fault, and the
state after reset (70_reset_and_hazards.md R240). -/

namespace Sys2Proof.Machine

/-- The result codes 0-7 of 60_exceptions.md R210, in the order of their numbers. Codes 8-15 are "never written by
this block" (R210, U5) and have no constructor. -/
inductive Result where
  /-- 0: the command did what its rule says. -/
  | ok
  /-- 1: the command word is invalid. -/
  | illegalCmd
  /-- 2: a CRC range leaves its buffer. -/
  | badArg
  /-- 3: TX_PLEN > 120. -/
  | tooLong
  /-- 4: the cipher is needed and no key is loaded. -/
  | keyErr
  /-- 5: DECODE check (1) or (4) failed. -/
  | badLength
  /-- 6: DECODE check (2) failed. -/
  | badMagic
  /-- 7: DECODE check (3) failed. -/
  | badChecksum
deriving DecidableEq, Repr

/-- The engine: `eng ∈ {IDLE, BUSY(w)}` with the latched command word (10_state.md R44). -/
inductive Engine where
  /-- No command is pending. -/
  | idle
  /-- Command word `w` is pending. -/
  | busy (w : Word)
deriving DecidableEq, Repr

/-- What happens next at the block, from outside it or by its engine (00_scope.md R13). A MODEL's own type: the spec
gives the agents and their steps, and the model lists the order in which they come (notes/assumptions/2). -/
inductive Event where
  /-- The host reads `size` bytes at bus address `addr` (20_memory.md R60, R61). -/
  | read (addr size : Nat)
  /-- The host writes `size` bytes at bus address `addr`; `value` is the data of a 32-bit write (R60, R61). -/
  | write (addr size : Nat) (value : Word)
  /-- The reset input `rst` is asserted (70_reset_and_hazards.md R240). -/
  | rst
  /-- The engine gets its turn (43_control.md R192). -/
  | engine
deriving DecidableEq, Repr

/-- What the bus answered to the host's last access. A MODEL's own type (notes/assumptions/12). -/
inductive Response where
  /-- No access was answered by the block. -/
  | none
  /-- A write completed normally (70_reset_and_hazards.md R241). -/
  | ack
  /-- A read returned this word. -/
  | data (v : Word)
deriving DecidableEq, Repr

/-- Why a step can stop. Closed: nothing else stops the block (43_control.md R195). -/
inductive Fault where
  /-- BusError at this host address (20_memory.md R61-R64). Raised by host accesses only: a wrong width, a misaligned
  or unlisted offset, a write to a read-only register. SAFE: the spec itself has the model fault here (R63, U8). -/
  | busError (addr : Nat)
deriving DecidableEq, Repr

/-- Why the model gives no meaning. Closed. -/
inductive Refusal where
  /-- The instruction of this mnemonic has no meaning in the model. Raised by no instruction: every command of the
  opcode table has its meaning. SAFE. -/
  | notModelled (mnemonic : String)
deriving DecidableEq, Repr

/-- The buffer memory: (window offset, byte) cells, in canonical form when `Memory.wf` holds (Machine/Ops.lean). -/
abbrev Memory := List Host.Cell

/-- The whole state: every piece of 10_state.md R20, R40, R41, R43 and R44, then the model's own fields. Each register
is as wide as its defined bits (R20: reserved bits read 0 and ignore writes). STATUS.BUSY is not a field, because
"STATUS.BUSY = 1 exactly when eng = BUSY(w)" (R44). -/
structure State where
  /-- CTRL.ENC_EN (R23). -/
  encEn : Bool
  /-- CTRL.IRQ_EN (R23). -/
  irqEn : Bool
  /-- CTRL.AUTOINC (R23). -/
  autoinc : Bool
  /-- STATUS.DONE (R24). -/
  done : Bool
  /-- STATUS.HAZ (R24). -/
  haz : Bool
  /-- STATUS.CTR_WRAP (R24). -/
  ctrWrap : Bool
  /-- STATUS.RESULT (R24, R210). -/
  result : Result
  /-- KEY_VALID (R43), mirrored by STATUS.KEY_VALID (R24). -/
  keyValid : Bool
  /-- STATUS.CIPHER (R24). -/
  cipher : Bool
  /-- The engine state (R44). -/
  eng : Engine
  /-- FLEN (R26). -/
  flen : Byte
  /-- CRC_VAL (R27). -/
  crcVal : Half
  /-- TX_TYPE (R28). -/
  txType : Byte
  /-- TX_SRC (R28). -/
  txSrc : Half
  /-- TX_DST (R28). -/
  txDst : Half
  /-- TX_CTR (R29). -/
  txCtr : Word
  /-- TX_NONCE_HI (R30). -/
  txNonceHi : Word
  /-- TX_NONCE_LO (R30). -/
  txNonceLo : Word
  /-- TX_PLEN (R31). -/
  txPlen : Byte
  /-- RX_VER (R34). -/
  rxVer : Byte
  /-- RX_TYPE (R34). -/
  rxType : Byte
  /-- RX_SRC (R34). -/
  rxSrc : Half
  /-- RX_DST (R34). -/
  rxDst : Half
  /-- RX_CTR (R34). -/
  rxCtr : Word
  /-- RX_NONCE_HI (R34). -/
  rxNonceHi : Word
  /-- RX_NONCE_LO (R34). -/
  rxNonceLo : Word
  /-- RX_PLEN (R34). -/
  rxPlen : Byte
  /-- RX_CRC (R34). -/
  rxCrc : Half
  /-- CFG_MAGIC (R32). -/
  cfgMagic : Half
  /-- CFG_VERSION (R32). -/
  cfgVersion : Byte
  /-- CFG_PTYPE (R33). -/
  cfgPtype : Word
  /-- KEY0, a key staging register (R35). -/
  key0 : Word
  /-- KEY1 (R35). -/
  key1 : Word
  /-- KEY2 (R35). -/
  key2 : Word
  /-- KEY3 (R35). -/
  key3 : Word
  /-- BLK0, a word of the block register (R36). -/
  blk0 : Word
  /-- BLK1 (R36). -/
  blk1 : Word
  /-- BLK2 (R36). -/
  blk2 : Word
  /-- BLK3 (R36). -/
  blk3 : Word
  /-- KEY, the hidden cipher key; KEY[0] is its most significant byte (R43). -/
  key : BitVec 128
  /-- FBUF and PBUF (R40, R41): the bytes written since the last reset, by window offset. -/
  mem : Memory
  /-- MODEL's own: the events still to come, oldest first (notes/assumptions/2). -/
  inputs : List Event
  /-- MODEL's own: the bus's answer to the last host access (notes/assumptions/12). -/
  resp : Response
  /-- MODEL's own: how many resets have happened since power-on (notes/assumptions/9). -/
  resets : Nat
  /-- MODEL's own: how many free words forbidden reads have drawn (notes/assumptions/9). -/
  draws : Nat
deriving DecidableEq, Repr

/-- The state after power-on reset: the reset values of the table of R20 and of R240. Nothing is listed in `mem`, so
every buffer byte is a free draw (R242). The model's own fields start empty (notes/assumptions/2, 9, 12). -/
def State.reset : State where
  encEn := true
  irqEn := false
  autoinc := false
  done := false
  haz := false
  ctrWrap := false
  result := .ok
  keyValid := false
  cipher := false
  eng := .idle
  flen := 0
  crcVal := 0xFFFF
  txType := 0
  txSrc := 0
  txDst := 0
  txCtr := 0
  txNonceHi := 0
  txNonceLo := 0
  txPlen := 0
  rxVer := 0
  rxType := 0
  rxSrc := 0
  rxDst := 0
  rxCtr := 0
  rxNonceHi := 0
  rxNonceLo := 0
  rxPlen := 0
  rxCrc := 0
  cfgMagic := Config.pMagic
  cfgVersion := Config.pVersion
  cfgPtype := Config.pPtypes
  key0 := 0
  key1 := 0
  key2 := 0
  key3 := 0
  blk0 := 0
  blk1 := 0
  blk2 := 0
  blk3 := 0
  key := 0
  mem := []
  inputs := []
  resp := .none
  resets := 0
  draws := 0

end Sys2Proof.Machine
end

