-- ==== Sys2Proof/Machine/Ops.lean ====
section
/-! DEFINITION. The named operations over the buffers and the engine: buffer bytes, completion of a command (the
block's taking of an exception, 60_exceptions.md R216), issue, refusal of an access while busy, and reset. -/

namespace Sys2Proof.Machine

/-- Window offset of FBUF[0] (10_state.md R40). -/
abbrev fbufBase : Nat := 0x100

/-- Window offset of PBUF[0] (10_state.md R41). -/
abbrev pbufBase : Nat := 0x200

/-- The window offsets of FBUF and PBUF (R40, R41): the only memory there is. -/
def inBuffers (a : Nat) : Bool :=
  (fbufBase ≤ a && a < fbufBase + Config.fbufBytes) || (pbufBase ≤ a && a < pbufBase + Config.pbufBytes)

/-- What the list holds at an offset: the byte written there since the last reset, or none. -/
def Memory.read : Memory → Nat → Option Byte
  | [], _ => none
  | (b, v) :: m, a => if b = a then some v else Memory.read m a

/-- The list with one byte written: addresses stay strictly rising. -/
def Memory.write : Memory → Nat → Byte → Memory
  | [], a, v => [(a, v)]
  | (b, u) :: m, a, v =>
    if a < b then (a, v) :: (b, u) :: m
    else if a = b then (a, v) :: m
    else (b, u) :: Memory.write m a v

/-- The list with a byte string written at rising offsets from `a` on. -/
def Memory.writeBytes : Memory → Nat → List Byte → Memory
  | m, _, [] => m
  | m, a, b :: bs => Memory.writeBytes (m.write a b) (a + 1) bs

/-- Every address of the list is above `lo`, rising strictly, and in a buffer. -/
def Memory.risingFrom : (lo : Nat) → Memory → Bool
  | _, [] => true
  | lo, (a, _) :: m => decide (lo < a) && inBuffers a && Memory.risingFrom a m

/-- The canonical form: addresses strictly rising, all inside FBUF and PBUF. An unlisted address reads as `none` (not
written since the last reset), which no listed entry does, so equal memories are equal lists (notes/assumptions/8). -/
def Memory.wf (m : Memory) : Bool := Memory.risingFrom 0 m

/-- The value of the buffer byte at a window offset: what was last written there, or the free draw of the last reset
(70_reset_and_hazards.md R242, 20_memory.md R69). -/
def State.byteAt (s : State) (a : Nat) : Byte := (s.mem.read a).getD (Config.bufferDraw s.resets a)

/-- The `len` buffer bytes from window offset `a` on. -/
def State.bytesAt (s : State) (a len : Nat) : List Byte := (List.range len).map fun i => s.byteAt (a + i)

/-- FBUF[off .. off+len) (R40). -/
def State.readFbuf (s : State) (off len : Nat) : List Byte := s.bytesAt (fbufBase + off) len

/-- PBUF[off .. off+len) (R41). -/
def State.readPbuf (s : State) (off len : Nat) : List Byte := s.bytesAt (pbufBase + off) len

/-- The byte string stored in the buffers from window offset `a` on. -/
def State.store (s : State) (a : Nat) (bs : List Byte) : State := { s with mem := s.mem.writeBytes a bs }

/-- Completion of the executing command (43_control.md R192, `finish(code)` of 00_scope.md R10): RESULT is set, BUSY
falls, DONE rises and the engine is idle. This is the block's analogue of taking an exception: it "saves no state and
changes no mode" (R216). -/
def State.finish (s : State) (code : Result) : State := { s with result := code, done := true, eng := .idle }

/-- Issue of command word `w` (43_control.md R191): the engine holds `w`, BUSY rises, DONE falls. -/
def State.issue (s : State) (w : Word) : State := { s with eng := .busy w, done := false }

/-- An access that the busy rules forbid sets the sticky HAZ (70_reset_and_hazards.md R250, R251). -/
def State.flagHazard (s : State) : State := { s with haz := true }

/-- The bus answers the host's access. -/
def State.answer (s : State) (r : Response) : State := { s with resp := r }

/-- Reset (70_reset_and_hazards.md R240): every register at its reset value, the key erased, the engine idle with its
pending command discarded, and every buffer byte a free draw of its own. The events still to come are no state of the
block and stay (notes/assumptions/2, 9, 12). -/
def State.takeReset (s : State) : State :=
  { State.reset with inputs := s.inputs, resp := s.resp, resets := s.resets + 1, draws := s.draws }

end Sys2Proof.Machine
end

