-- ==== Sys2Proof/Machine/Flags.lean ====
section
/-! DEFINITION. The flags: the words CTRL and STATUS read as, the W1C bits, the interrupt output, the plaintext-type
test and the counter's wrap flag (10_state.md R23, R24, R33, R37; 60_exceptions.md R210, R215; 41_frame_codec.md
R121, R125). -/

namespace Sys2Proof.Machine

/-- The 4-bit number of a result code (R210). -/
def Result.code : Result → BitVec 4
  | .ok => 0
  | .illegalCmd => 1
  | .badArg => 2
  | .tooLong => 3
  | .keyErr => 4
  | .badLength => 5
  | .badMagic => 6
  | .badChecksum => 7

/-- STATUS.BUSY: 1 exactly when eng = BUSY(w) (R44). -/
def State.busy (s : State) : Bool :=
  match s.eng with
  | .idle => false
  | .busy _ => true

/-- CTRL as a read returns it (R23): ENC_EN, IRQ_EN and AUTOINC in bits 0 to 2, SOFT_RST and reserved bits 0. -/
def State.ctrlWord (s : State) : Word :=
  0#29 ++ BitVec.ofBool s.autoinc ++ BitVec.ofBool s.irqEn ++ BitVec.ofBool s.encEn

/-- STATUS as a read returns it (R24). -/
def State.statusWord (s : State) : Word :=
  0#22 ++ BitVec.ofBool s.cipher ++ BitVec.ofBool s.keyValid ++ s.result.code ++ BitVec.ofBool s.ctrWrap ++
    BitVec.ofBool s.haz ++ BitVec.ofBool s.done ++ BitVec.ofBool s.busy

/-- A write of `v` to CTRL with bit 3 = 0 (R23). -/
def State.writeCtrl (s : State) (v : Word) : State :=
  { s with encEn := v.getLsbD 0, irqEn := v.getLsbD 1, autoinc := v.getLsbD 2 }

/-- A write of `v` to STATUS (R24): DONE, HAZ and CTR_WRAP are cleared where `v` has a 1. Clearing DONE is the host's
acknowledgement of a completion (60_exceptions.md R217). -/
def State.clearW1C (s : State) (v : Word) : State :=
  { s with done := s.done && !v.getLsbD 1, haz := s.haz && !v.getLsbD 2, ctrWrap := s.ctrWrap && !v.getLsbD 3 }

/-- The interrupt output: `irq = STATUS.DONE ∧ CTRL.IRQ_EN` at every moment (R215). -/
def State.irq (s : State) : Bool := s.done && s.irqEn

/-- `isPlain(t)`: t is one of the four codes PT0..PT3 of CFG_PTYPE (R33). -/
def State.isPlain (s : State) (t : Byte) : Bool :=
  t == s.cfgPtype.extractLsb' 0 8 || t == s.cfgPtype.extractLsb' 8 8 ||
    t == s.cfgPtype.extractLsb' 16 8 || t == s.cfgPtype.extractLsb' 24 8

/-- `cipher_needed(t)` (R121). -/
def State.cipherNeeded (s : State) (t : Byte) : Bool := s.encEn && !s.isPlain t

/-- The cipher is needed for type `t` and no key is loaded (R124, R130 check (5)). -/
def State.keyMissing (s : State) (t : Byte) : Bool := s.cipherNeeded t && !s.keyValid

/-- `autoinc()` (R125): under CTRL.AUTOINC, TX_CTR steps mod 2^32 and CTR_WRAP is set when it becomes 0. -/
def State.advanceCounter (s : State) : State :=
  if s.autoinc then { s with txCtr := s.txCtr + 1, ctrWrap := s.ctrWrap || s.txCtr + 1 == 0 } else s

end Sys2Proof.Machine
end

