-- ==== Sys2Proof/Machine/Operands.lean ====
section
/-! DEFINITION. The operand forms: what a command takes from its word (30_encoding.md R84) and from the registers
(10_state.md R26-R36). -/

namespace Sys2Proof.Machine

/-- The payload length L: TX_PLEN[7:0] (R31). -/
def State.txLen (s : State) : Nat := s.txPlen.toNat

/-- The frame length N: FLEN[7:0] (R26). -/
def State.frameLen (s : State) : Nat := s.flen.toNat

/-- The 8 nonce bytes `BE_4(TX_NONCE_HI) ‖ BE_4(TX_NONCE_LO)` (R30). -/
def State.txNonce (s : State) : List Byte := bytesOfWord s.txNonceHi ++ bytesOfWord s.txNonceLo

/-- The staged key `BE_4(KEY0) ‖ BE_4(KEY1) ‖ BE_4(KEY2) ‖ BE_4(KEY3)` (R35). -/
def State.stagedKey (s : State) : BitVec 128 := s.key0 ++ s.key1 ++ s.key2 ++ s.key3

/-- The 16 bytes KEY[0..15] of the cipher key (R43). -/
def State.keyBytes (s : State) : List Byte := be 16 s.key.toNat

/-- The 16 bytes of the block register, BLK0's first (R36). -/
def State.blockBytes (s : State) : List Byte :=
  bytesOfWord s.blk0 ++ bytesOfWord s.blk1 ++ bytesOfWord s.blk2 ++ bytesOfWord s.blk3

/-- The block register holding these 16 bytes (R36, R173). -/
def State.writeBlock (s : State) (bs : List Byte) : State :=
  { s with blk0 := wordOfBytes (bs.take 4), blk1 := wordOfBytes ((bs.drop 4).take 4),
           blk2 := wordOfBytes ((bs.drop 8).take 4), blk3 := wordOfBytes ((bs.drop 12).take 4) }

/-- The key staging registers cleared to 0 (R35, R170, R171). -/
def State.clearStaging (s : State) : State := { s with key0 := 0, key1 := 0, key2 := 0, key3 := 0 }

end Sys2Proof.Machine
end

