-- ==== Sys2Proof/Machine/Bus.lean ====
section
/-! DEFINITION. The host's accesses to the register window: the register map of 10_state.md R20, the access rules of
20_memory.md R60-R67, the busy rules of 70_reset_and_hazards.md R250-R252, and soft reset (R241). -/

namespace Sys2Proof.Machine

/-- What the window lists (R20): the registers by name, and the words of the two buffers. -/
inductive Reg where
  | id | ctrl | status | cmd | flen | crcVal
  | txType | txSrc | txDst | txCtr | txNonceHi | txNonceLo | txPlen
  | rxVer | rxType | rxSrc | rxDst | rxCtr | rxNonceHi | rxNonceLo | rxPlen | rxCrc
  | cfgMagic | cfgVersion | cfgPtype
  | key0 | key1 | key2 | key3
  | blk0 | blk1 | blk2 | blk3
  /-- FBUF word k. -/
  | fbufWord (k : Nat)
  /-- PBUF word k. -/
  | pbufWord (k : Nat)
deriving DecidableEq, Repr

/-- The table of R20: window offset and name of every register that is no buffer word. -/
def registerMap : List (Nat × Reg) :=
  [(0x000, .id), (0x004, .ctrl), (0x008, .status), (0x00C, .cmd), (0x010, .flen), (0x014, .crcVal),
   (0x020, .txType), (0x024, .txSrc), (0x028, .txDst), (0x02C, .txCtr), (0x030, .txNonceHi), (0x034, .txNonceLo),
   (0x038, .txPlen)] ++
  [(0x040, .rxVer), (0x044, .rxType), (0x048, .rxSrc), (0x04C, .rxDst), (0x050, .rxCtr), (0x054, .rxNonceHi),
   (0x058, .rxNonceLo), (0x05C, .rxPlen), (0x060, .rxCrc)] ++
  [(0x070, .cfgMagic), (0x074, .cfgVersion), (0x078, .cfgPtype),
   (0x080, .key0), (0x084, .key1), (0x088, .key2), (0x08C, .key3),
   (0x090, .blk0), (0x094, .blk1), (0x098, .blk2), (0x09C, .blk3)]

/-- What the window lists at an offset that is a multiple of 4 (R20), or nothing (R62). -/
def regAt (o : Nat) : Option Reg :=
  if fbufBase ≤ o ∧ o < fbufBase + Config.fbufBytes then some (.fbufWord ((o - fbufBase) / 4))
  else if pbufBase ≤ o ∧ o < pbufBase + Config.pbufBytes then some (.pbufWord ((o - pbufBase) / 4))
  else registerMap.lookup o

/-- The RO registers, a write to which raises BusError (R20, R64): ID and every RX_ register. -/
def Reg.readOnly : Reg → Bool
  | .id => true
  | .rxVer => true
  | .rxType => true
  | .rxSrc => true
  | .rxDst => true
  | .rxCtr => true
  | .rxNonceHi => true
  | .rxNonceLo => true
  | .rxPlen => true
  | .rxCrc => true
  | _ => false

/-- The registers a read of which the busy rules allow (R251): ID, CTRL and STATUS. -/
def Reg.readableWhileBusy : Reg → Bool
  | .id => true
  | .ctrl => true
  | .status => true
  | _ => false

/-- The current value of a listed register or buffer word as a read returns it (R20-R36): reserved bits 0, and 0 for the
write-only registers (R64). -/
def State.regValue (s : State) : Reg → Word
  | .id => Config.idValue
  | .ctrl => s.ctrlWord
  | .status => s.statusWord
  | .cmd => 0
  | .flen => s.flen.setWidth 32
  | .crcVal => s.crcVal.setWidth 32
  | .txType => s.txType.setWidth 32
  | .txSrc => s.txSrc.setWidth 32
  | .txDst => s.txDst.setWidth 32
  | .txCtr => s.txCtr
  | .txNonceHi => s.txNonceHi
  | .txNonceLo => s.txNonceLo
  | .txPlen => s.txPlen.setWidth 32
  | .rxVer => s.rxVer.setWidth 32
  | .rxType => s.rxType.setWidth 32
  | .rxSrc => s.rxSrc.setWidth 32
  | .rxDst => s.rxDst.setWidth 32
  | .rxCtr => s.rxCtr
  | .rxNonceHi => s.rxNonceHi
  | .rxNonceLo => s.rxNonceLo
  | .rxPlen => s.rxPlen.setWidth 32
  | .rxCrc => s.rxCrc.setWidth 32
  | .cfgMagic => s.cfgMagic.setWidth 32
  | .cfgVersion => s.cfgVersion.setWidth 32
  | .cfgPtype => s.cfgPtype
  | .key0 => 0
  | .key1 => 0
  | .key2 => 0
  | .key3 => 0
  | .blk0 => s.blk0
  | .blk1 => s.blk1
  | .blk2 => s.blk2
  | .blk3 => s.blk3
  | .fbufWord k => wordOfBytes (s.readFbuf (4 * k) 4)
  | .pbufWord k => wordOfBytes (s.readPbuf (4 * k) 4)

/-- A write of `v` to a listed register or buffer word while the engine is idle (R20-R36): reserved bits are dropped, a
CMD write issues (43_control.md R191), a STATUS write clears W1C bits, a CTRL write with bit 3 = 1 resets (R241). -/
def State.writeReg (s : State) (r : Reg) (v : Word) : State :=
  match r with
  | .id => s
  | .ctrl => if v.getLsbD 3 then s.takeReset else s.writeCtrl v
  | .status => s.clearW1C v
  | .cmd => s.issue v
  | .flen => { s with flen := v.setWidth 8 }
  | .crcVal => { s with crcVal := v.setWidth 16 }
  | .txType => { s with txType := v.setWidth 8 }
  | .txSrc => { s with txSrc := v.setWidth 16 }
  | .txDst => { s with txDst := v.setWidth 16 }
  | .txCtr => { s with txCtr := v }
  | .txNonceHi => { s with txNonceHi := v }
  | .txNonceLo => { s with txNonceLo := v }
  | .txPlen => { s with txPlen := v.setWidth 8 }
  | .rxVer => s
  | .rxType => s
  | .rxSrc => s
  | .rxDst => s
  | .rxCtr => s
  | .rxNonceHi => s
  | .rxNonceLo => s
  | .rxPlen => s
  | .rxCrc => s
  | .cfgMagic => { s with cfgMagic := v.setWidth 16 }
  | .cfgVersion => { s with cfgVersion := v.setWidth 8 }
  | .cfgPtype => { s with cfgPtype := v }
  | .key0 => { s with key0 := v }
  | .key1 => { s with key1 := v }
  | .key2 => { s with key2 := v }
  | .key3 => { s with key3 := v }
  | .blk0 => { s with blk0 := v }
  | .blk1 => { s with blk1 := v }
  | .blk2 => { s with blk2 := v }
  | .blk3 => { s with blk3 := v }
  | .fbufWord k => s.store (fbufBase + 4 * k) (bytesOfWord v)
  | .pbufWord k => s.store (pbufBase + 4 * k) (bytesOfWord v)

/-- The writes the busy rules let take effect (R250): a STATUS write, and a CTRL write with bit 3 = 1. -/
def writableWhileBusy (r : Reg) (v : Word) : Bool :=
  match r with
  | .status => true
  | .ctrl => v.getLsbD 3
  | _ => false

/-- A 32-bit read of a listed register or buffer word. While busy, a read of anything but ID, CTRL and STATUS returns a
fresh free word and sets HAZ (R251); no other read has a side effect (R67). -/
def State.busRead (s : State) (r : Reg) : State :=
  if s.busy && !r.readableWhileBusy then
    { s.flagHazard with draws := s.draws + 1 }.answer (.data (Config.busyReadDraw s.draws))
  else s.answer (.data (s.regValue r))

/-- A 32-bit write to a listed register or buffer word that is not read-only. While busy, a forbidden write is ignored and
sets HAZ (R250). The bus acknowledges the write (R241; notes/assumptions/13). -/
def State.busWrite (s : State) (r : Reg) (v : Word) : State :=
  if s.busy && !writableWhileBusy r v then s.flagHazard.answer .ack else (s.writeReg r v).answer .ack

/-- The window offset of a host address, if the window holds it (R60). -/
def windowOffset (addr : Nat) : Option Nat :=
  if Config.pBase ≤ addr ∧ addr < Config.pBase + Config.windowBytes then some (addr - Config.pBase) else none

/-- An access that R61 allows: 4 bytes wide at an offset that is a multiple of 4. -/
def aligned32 (o size : Nat) : Bool := size == 4 && o % 4 == 0

/-- A host read at window offset `o`, which is host address `addr` (R61, R62). BusError comes before the busy rules
(R252) and changes nothing (R63). -/
def State.readOffset (s : State) (addr o size : Nat) : Host.Outcome State Fault Refusal :=
  if aligned32 o size then
    match regAt o with
    | none => .fault (.busError addr)
    | some r => .next (s.busRead r)
  else .fault (.busError addr)

/-- A host write at window offset `o`, which is host address `addr` (R61, R62, R64, R252). -/
def State.writeOffset (s : State) (addr o size : Nat) (v : Word) : Host.Outcome State Fault Refusal :=
  if aligned32 o size then
    match regAt o with
    | none => .fault (.busError addr)
    | some r => if r.readOnly then .fault (.busError addr) else .next (s.busWrite r v)
  else .fault (.busError addr)

/-- A host read (R60-R64). "An access outside the window is not addressed to the block" (R62): it changes nothing and
the block answers nothing (notes/assumptions/6). -/
def State.hostRead (s : State) (addr size : Nat) : Host.Outcome State Fault Refusal :=
  match windowOffset addr with
  | none => .next (s.answer .none)
  | some o => s.readOffset addr o size

/-- A host write (R60-R64). -/
def State.hostWrite (s : State) (addr size : Nat) (v : Word) : Host.Outcome State Fault Refusal :=
  match windowOffset addr with
  | none => .next (s.answer .none)
  | some o => s.writeOffset addr o size v

end Sys2Proof.Machine
end

