-- ==== Sys2Proof/Machine/Aes.lean ====
section
/-! DEFINITION. AES-128 as 42_cipher.md R150-R156 defines it, and the counter-mode keystream (R160). The 4×4 state is the
list of its 16 bytes column by column (R151): `s[r][c]` is element r + 4c. -/

namespace Sys2Proof.Machine

/-- `s[r][c]` of the state matrix (R151). -/
def cellAt (s : List Byte) (r c : Nat) : Byte := s.getD (r + 4 * c) 0

/-- `xtime(a) = 2•a` in GF(2^8) with the polynomial 0x11B, kept to 8 bits (R152). -/
def xtime (a : Byte) : Byte := if a.getLsbD 7 then (a <<< 1) ^^^ 0x1B else a <<< 1

/-- `3•a = xtime(a) ⊕ a` (R152). -/
def times3 (a : Byte) : Byte := xtime a ^^^ a

/-- The rows of the S-box table (R153), by high nibble. -/
def sboxRow : Nat → List Byte
  | 0x0 => [0x63, 0x7C, 0x77, 0x7B, 0xF2, 0x6B, 0x6F, 0xC5, 0x30, 0x01, 0x67, 0x2B, 0xFE, 0xD7, 0xAB, 0x76]
  | 0x1 => [0xCA, 0x82, 0xC9, 0x7D, 0xFA, 0x59, 0x47, 0xF0, 0xAD, 0xD4, 0xA2, 0xAF, 0x9C, 0xA4, 0x72, 0xC0]
  | 0x2 => [0xB7, 0xFD, 0x93, 0x26, 0x36, 0x3F, 0xF7, 0xCC, 0x34, 0xA5, 0xE5, 0xF1, 0x71, 0xD8, 0x31, 0x15]
  | 0x3 => [0x04, 0xC7, 0x23, 0xC3, 0x18, 0x96, 0x05, 0x9A, 0x07, 0x12, 0x80, 0xE2, 0xEB, 0x27, 0xB2, 0x75]
  | 0x4 => [0x09, 0x83, 0x2C, 0x1A, 0x1B, 0x6E, 0x5A, 0xA0, 0x52, 0x3B, 0xD6, 0xB3, 0x29, 0xE3, 0x2F, 0x84]
  | 0x5 => [0x53, 0xD1, 0x00, 0xED, 0x20, 0xFC, 0xB1, 0x5B, 0x6A, 0xCB, 0xBE, 0x39, 0x4A, 0x4C, 0x58, 0xCF]
  | 0x6 => [0xD0, 0xEF, 0xAA, 0xFB, 0x43, 0x4D, 0x33, 0x85, 0x45, 0xF9, 0x02, 0x7F, 0x50, 0x3C, 0x9F, 0xA8]
  | 0x7 => [0x51, 0xA3, 0x40, 0x8F, 0x92, 0x9D, 0x38, 0xF5, 0xBC, 0xB6, 0xDA, 0x21, 0x10, 0xFF, 0xF3, 0xD2]
  | 0x8 => [0xCD, 0x0C, 0x13, 0xEC, 0x5F, 0x97, 0x44, 0x17, 0xC4, 0xA7, 0x7E, 0x3D, 0x64, 0x5D, 0x19, 0x73]
  | 0x9 => [0x60, 0x81, 0x4F, 0xDC, 0x22, 0x2A, 0x90, 0x88, 0x46, 0xEE, 0xB8, 0x14, 0xDE, 0x5E, 0x0B, 0xDB]
  | 0xA => [0xE0, 0x32, 0x3A, 0x0A, 0x49, 0x06, 0x24, 0x5C, 0xC2, 0xD3, 0xAC, 0x62, 0x91, 0x95, 0xE4, 0x79]
  | 0xB => [0xE7, 0xC8, 0x37, 0x6D, 0x8D, 0xD5, 0x4E, 0xA9, 0x6C, 0x56, 0xF4, 0xEA, 0x65, 0x7A, 0xAE, 0x08]
  | 0xC => [0xBA, 0x78, 0x25, 0x2E, 0x1C, 0xA6, 0xB4, 0xC6, 0xE8, 0xDD, 0x74, 0x1F, 0x4B, 0xBD, 0x8B, 0x8A]
  | 0xD => [0x70, 0x3E, 0xB5, 0x66, 0x48, 0x03, 0xF6, 0x0E, 0x61, 0x35, 0x57, 0xB9, 0x86, 0xC1, 0x1D, 0x9E]
  | 0xE => [0xE1, 0xF8, 0x98, 0x11, 0x69, 0xD9, 0x8E, 0x94, 0x9B, 0x1E, 0x87, 0xE9, 0xCE, 0x55, 0x28, 0xDF]
  | 0xF => [0x8C, 0xA1, 0x89, 0x0D, 0xBF, 0xE6, 0x42, 0x68, 0x41, 0x99, 0x2D, 0x0F, 0xB0, 0x54, 0xBB, 0x16]
  | _ => []

/-- The S-box, read from its table: row = high nibble, column = low nibble (R153). -/
def sbox (x : Byte) : Byte := (sboxRow (x.toNat / 16)).getD (x.toNat % 16) 0

/-- SubBytes (R154). -/
def subBytes (s : List Byte) : List Byte := s.map sbox

/-- ShiftRows: `s'[r][c] = s[r][(c + r) mod 4]` (R154). -/
def shiftRows (s : List Byte) : List Byte :=
  (List.range 16).map fun i => cellAt s (i % 4) ((i / 4 + i % 4) % 4)

/-- MixColumns on one column (a0, a1, a2, a3) (R154). -/
def mixColumn (a0 a1 a2 a3 : Byte) : List Byte :=
  [xtime a0 ^^^ times3 a1 ^^^ a2 ^^^ a3,
   a0 ^^^ xtime a1 ^^^ times3 a2 ^^^ a3,
   a0 ^^^ a1 ^^^ xtime a2 ^^^ times3 a3,
   times3 a0 ^^^ a1 ^^^ a2 ^^^ xtime a3]

/-- MixColumns: every column (R154). -/
def mixColumns (s : List Byte) : List Byte :=
  (List.range 4).flatMap fun c => mixColumn (cellAt s 0 c) (cellAt s 1 c) (cellAt s 2 c) (cellAt s 3 c)

/-- `RotWord(a0, a1, a2, a3) = (a1, a2, a3, a0)` (R155). -/
def rotWord (w : List Byte) : List Byte := w.drop 1 ++ w.take 1

/-- `Rcon[1..10]` (R155). -/
def rcon (n : Nat) : Byte := [0x01, 0x02, 0x04, 0x08, 0x10, 0x20, 0x40, 0x80, 0x1B, 0x36].getD (n - 1) 0

/-- The round-key word w[i], for i ≥ 4, from the words before it (R155). -/
def keyWord (i : Nat) (ws : List (List Byte)) : List Byte :=
  let t := ws.getD (i - 1) []
  xorBytes (ws.getD (i - 4) [])
    (if i % 4 = 0 then xorBytes ((rotWord t).map sbox) [rcon (i / 4), 0, 0, 0] else t)

/-- The round-key words w[0..43] of key K (R155). -/
def expandKey (k : List Byte) : List (List Byte) :=
  (List.range 40).foldl (fun ws n => ws ++ [keyWord (n + 4) ws]) ((List.range 4).map fun i => (k.drop (4 * i)).take 4)

/-- AddRoundKey(n): column c of the state ⊕ w[4n + c] (R154). -/
def addRoundKey (ws : List (List Byte)) (n : Nat) (s : List Byte) : List Byte :=
  (List.range 16).map fun i => cellAt s (i % 4) (i / 4) ^^^ (ws.getD (4 * n + i / 4) []).getD (i % 4) 0

/-- `E(K, B)`: the AES-128 encryption of block B under key K (R150, R156). -/
def aesEncrypt (k b : List Byte) : List Byte :=
  let ws := expandKey k
  let s9 := (List.range 9).foldl
    (fun s n => addRoundKey ws (n + 1) (mixColumns (shiftRows (subBytes s)))) (addRoundKey ws 0 b)
  addRoundKey ws 10 (shiftRows (subBytes s9))

/-- Counter block j: `nonce ‖ BE_4(ctr) ‖ BE_4(j mod 2^32)` (30_encoding.md R89, R160). -/
def counterBlock (nonce : List Byte) (ctr : Word) (j : Nat) : List Byte :=
  nonce ++ bytesOfWord ctr ++ be 4 (j % 2 ^ 32)

/-- `keystream(K, nonce, ctr, L)` (R160): the blocks E(K, CB_0), E(K, CB_1), …, the unused tail of the last discarded. -/
def keystream (k nonce : List Byte) (ctr : Word) (len : Nat) : List Byte :=
  ((List.range ((len + 15) / 16)).flatMap fun j => aesEncrypt k (counterBlock nonce ctr j)).take len

end Sys2Proof.Machine
end

