-- ==== Sys2Proof/Machine/Cipher.lean ====
section
/-! DEFINITION. The cipher commands (42_cipher.md R170-R173). -/

namespace Sys2Proof.Machine

/-- KEY_LOAD (R170): the staged key becomes the key, and the staging registers are cleared. -/
def execKeyLoad (s : State) : Host.Outcome State Fault Refusal :=
  .next (({ s with key := s.stagedKey, keyValid := true }.clearStaging).finish .ok)

/-- KEY_CLEAR (R171): the key and the staging registers are erased. -/
def execKeyClear (s : State) : Host.Outcome State Fault Refusal :=
  .next (({ s with key := 0, keyValid := false }.clearStaging).finish .ok)

/-- PBUF[0..L) ⊕ keystream(KEY, nonce, TX_CTR, L), with L = TX_PLEN (R172). -/
def State.ctrPayload (s : State) : List Byte :=
  xorBytes (s.readPbuf 0 s.txLen) (keystream s.keyBytes s.txNonce s.txCtr s.txLen)

/-- CTR_PBUF (R172): TOO_LONG first, then KEY_ERR, else the keystream over PBUF in place. -/
def execCtrPbuf (s : State) : Host.Outcome State Fault Refusal :=
  .next (
    if Config.maxPayload < s.txLen then s.finish .tooLong
    else if !s.keyValid then s.finish .keyErr
    else (s.store pbufBase s.ctrPayload).finish .ok)

/-- AES_BLOCK (R173): BLK <- E(KEY, BLK). -/
def execAesBlock (s : State) : Host.Outcome State Fault Refusal :=
  .next (
    if !s.keyValid then s.finish .keyErr
    else (s.writeBlock (aesEncrypt s.keyBytes s.blockBytes)).finish .ok)

end Sys2Proof.Machine
end

