-- ==== Sys2Proof/Machine/Crc.lean ====
section
/-! DEFINITION. CRC-16/CCITT-FALSE (40_crc.md R100, R101) and its four commands (R102-R105). -/

namespace Sys2Proof.Machine

/-- One of the 8 shifts of `crc_step` (R101). -/
def crcShift (c : Half) : Half :=
  if c.getLsbD 15 then (c <<< 1) ^^^ Config.crcPoly else c <<< 1

/-- `n` shifts. -/
def crcShifts : Nat → Half → Half
  | 0, c => c
  | n + 1, c => crcShifts n (crcShift c)

/-- `crc_step(c, b)`: one byte fed into the register, most significant bit first (R101). -/
def crcStep (c : Half) (b : Byte) : Half := crcShifts 8 (c ^^^ (b.setWidth 16 <<< 8))

/-- `crc16(S, c0)` (R101). -/
def crc16 (bs : List Byte) (c0 : Half) : Half := bs.foldl crcStep c0

/-- `crc16(S) = crc16(S, 0xFFFF)`, the frame checksum's primitive (R101). -/
def frameCrc (bs : List Byte) : Half := crc16 bs Config.crcInit

/-- CRC_INIT (R102). -/
def execCrcInit (s : State) : Host.Outcome State Fault Refusal :=
  .next ({ s with crcVal := Config.crcInit }.finish .ok)

/-- CRC_BYTE data (R103). -/
def execCrcByte (data : Byte) (s : State) : Host.Outcome State Fault Refusal :=
  .next ({ s with crcVal := crcStep s.crcVal data }.finish .ok)

/-- CRC_FBUF off, len (R104); off + len is computed without wrap (R84). -/
def execCrcFbuf (off len : Nat) (s : State) : Host.Outcome State Fault Refusal :=
  .next (
    if Config.fbufBytes < off + len then s.finish .badArg
    else { s with crcVal := crc16 (s.readFbuf off len) s.crcVal }.finish .ok)

/-- CRC_PBUF off, len (R105). -/
def execCrcPbuf (off len : Nat) (s : State) : Host.Outcome State Fault Refusal :=
  .next (
    if Config.pbufBytes < off + len then s.finish .badArg
    else { s with crcVal := crc16 (s.readPbuf off len) s.crcVal }.finish .ok)

end Sys2Proof.Machine
end

