-- ==== Sys2Proof/Machine/Codec.lean ====
section
/-! DEFINITION. The frame serializer and deserializer: ENCODE and DECODE (41_frame_codec.md R120-R134), over the wire
frame of 30_encoding.md R86. -/

namespace Sys2Proof.Machine

/-- The 21 header bytes H that ENCODE lays out, `payloadLen` last (R86, R120). -/
def State.txHeader (s : State) : List Byte :=
  bytesOfHalf s.cfgMagic ++ [s.cfgVersion] ++ [s.txType] ++ bytesOfHalf s.txSrc ++ bytesOfHalf s.txDst ++
    bytesOfWord s.txCtr ++ s.txNonce ++ [s.txPlen]

/-- The payload W as ENCODE transmits it: enciphered exactly when the cipher is needed (R120, R121). -/
def State.txPayload (s : State) : List Byte :=
  if s.cipherNeeded s.txType then s.ctrPayload else s.readPbuf 0 s.txLen

/-- Header and payload: every byte that the checksum covers (R88). -/
def State.txBody (s : State) : List Byte := s.txHeader ++ s.txPayload

/-- The whole frame F, checksum last and big-endian (R86, R120). -/
def State.txFrame (s : State) : List Byte := s.txBody ++ bytesOfHalf (frameCrc s.txBody)

/-- What an ENCODE that finishes OK writes (R120, R123), before `autoinc()`. -/
def State.writeFrame (s : State) : State :=
  { s with
    mem := s.mem.writeBytes fbufBase s.txFrame
    flen := BitVec.ofNat 8 (Config.hdrLen + Config.crcLen + s.txLen)
    cipher := s.cipherNeeded s.txType }

/-- ENCODE (R120): TOO_LONG first (R122), then KEY_ERR (R124), else the frame. -/
def execEncode (s : State) : Host.Outcome State Fault Refusal :=
  .next (
    if Config.maxPayload < s.txLen then s.finish .tooLong
    else if s.keyMissing s.txType then s.finish .keyErr
    else s.writeFrame.advanceCounter.finish .ok)

/-- FBUF[i] (R40). -/
def State.fbuf (s : State) (i : Nat) : Byte := s.byteAt (fbufBase + i)

/-- The received payload length L = FBUF[20] (R130). -/
def State.rxLen (s : State) : Nat := (s.fbuf 20).toNat

/-- The checksum field, the last two bytes of the N-byte frame (R130). -/
def State.rxChecksum (s : State) : Half := halfOfBytes (s.readFbuf (s.frameLen - 2) 2)

/-- DECODE's five checks in the order of R133; the first that fails decides. -/
def State.decodeCheck (s : State) : Result :=
  if s.frameLen < Config.decPrefilter ∨ Config.maxFrame < s.frameLen then .badLength
  else if s.readFbuf 0 2 ≠ bytesOfHalf s.cfgMagic then .badMagic
  else if frameCrc (s.readFbuf 0 (s.frameLen - 2)) ≠ s.rxChecksum then .badChecksum
  else if Config.hdrLen + s.rxLen + Config.crcLen ≠ s.frameLen then .badLength
  else if s.keyMissing (s.fbuf 3) then .keyErr
  else .ok

/-- The recovered payload P: the keystream of the frame's own nonce and counter, exactly when the cipher is needed for
its type (R130, R131). -/
def State.rxPayload (s : State) : List Byte :=
  if s.cipherNeeded (s.fbuf 3) then
    xorBytes (s.readFbuf 21 s.rxLen)
      (keystream s.keyBytes (s.readFbuf 12 8) (wordOfBytes (s.readFbuf 8 4)) s.rxLen)
  else s.readFbuf 21 s.rxLen

/-- What a DECODE that finishes OK writes (R132). -/
def State.writeReceived (s : State) : State :=
  { s with
    mem := s.mem.writeBytes pbufBase s.rxPayload
    rxVer := s.fbuf 2
    rxType := s.fbuf 3
    rxSrc := halfOfBytes (s.readFbuf 4 2)
    rxDst := halfOfBytes (s.readFbuf 6 2)
    rxCtr := wordOfBytes (s.readFbuf 8 4)
    rxNonceHi := wordOfBytes (s.readFbuf 12 4)
    rxNonceLo := wordOfBytes (s.readFbuf 16 4)
    rxPlen := s.fbuf 20
    rxCrc := s.rxChecksum
    cipher := s.cipherNeeded (s.fbuf 3) }

/-- DECODE (R130): a failing check writes the completion fields alone (R134). -/
def execDecode (s : State) : Host.Outcome State Fault Refusal :=
  .next (if s.decodeCheck = .ok then s.writeReceived.finish .ok else s.finish s.decodeCheck)

end Sys2Proof.Machine
end

