-- ==== Sys2Proof/Machine/Control.lean ====
section
/-! DEFINITION. NOP and the completion of an invalid command word (43_control.md R190, R193). -/

namespace Sys2Proof.Machine

/-- NOP (R190): completes with OK. -/
def execNop (s : State) : Host.Outcome State Fault Refusal := .next (s.finish .ok)

/-- An invalid command word (30_encoding.md R81): completes with ILLEGAL_CMD and no other effect (R193). -/
def execIllegal (s : State) : Host.Outcome State Fault Refusal := .next (s.finish .illegalCmd)

end Sys2Proof.Machine
end

