-- ==== Sys2Proof/Machine/Dispatch.lean ====
section
/-! DEFINITION. The dispatch of a valid command to its rule (43_control.md R194): the completion step of `i` at `s`. -/

namespace Sys2Proof.Machine

/-- `exec i s` is the engine's whole completion step (R192) for the command `i`: its effect and `finish(code)`. -/
def exec (i : Instr) (s : State) : Host.Outcome State Fault Refusal :=
  match i with
  | .nop => Sys2Proof.Machine.execNop s
  | .crcInit => Sys2Proof.Machine.execCrcInit s
  | .crcByte data => Sys2Proof.Machine.execCrcByte data s
  | .crcFbuf off len => Sys2Proof.Machine.execCrcFbuf off len s
  | .crcPbuf off len => Sys2Proof.Machine.execCrcPbuf off len s
  | .encode => Sys2Proof.Machine.execEncode s
  | .decode => Sys2Proof.Machine.execDecode s
  | .keyLoad => Sys2Proof.Machine.execKeyLoad s
  | .keyClear => Sys2Proof.Machine.execKeyClear s
  | .ctrPbuf => Sys2Proof.Machine.execCtrPbuf s
  | .aesBlock => Sys2Proof.Machine.execAesBlock s

end Sys2Proof.Machine
end

