-- ==== Sys2Proof/Machine/Agents.lean ====
section
/-! DEFINITION. One step of an agent (00_scope.md R13): the engine's completion step (43_control.md R192), a host access,
or a reset event. -/

namespace Sys2Proof.Machine

/-- `execute(w)` with its completion (R192-R194): validity is decided before anything else (R214). -/
def State.execute (s : State) (w : Word) : Host.Outcome State Fault Refusal :=
  match decode w with
  | .instr i => exec i s
  | .rejected _ => execIllegal s

/-- The engine's turn: the completion step when a command is pending (R192), nothing when the engine is idle, since "all
state is kept while idle" (60_exceptions.md R229). -/
def State.engineTurn (s : State) : Host.Outcome State Fault Refusal :=
  match s.eng with
  | .idle => .next s
  | .busy w => s.execute w

/-- One event at the block. -/
def State.react (s : State) : Event → Host.Outcome State Fault Refusal
  | .read addr size => s.hostRead addr size
  | .write addr size v => s.hostWrite addr size v
  | .rst => .next s.takeReset
  | .engine => s.engineTurn

/-- One step: the oldest event, taken off the list; with none left, the engine's turn, so that an issued command
completes (weak fairness, R192; notes/assumptions/2). -/
def State.advance (s : State) : Host.Outcome State Fault Refusal :=
  match s.inputs with
  | [] => s.engineTurn
  | e :: rest => { s with inputs := rest }.react e

/-- The state in which the very next step executes command word `w`: `w` issued (R191), and the engine's turn placed
first when other events wait. -/
def State.readyToRun (s : State) (w : Word) : State :=
  match s.inputs with
  | [] => s.issue w
  | e :: rest => { s.issue w with inputs := .engine :: e :: rest }

end Sys2Proof.Machine
end

