-- ==== Sys2Proof/Machine/Step.lean ====
section
/-! DEFINITION. The step, and the placing of a command word where the next step fetches it. -/

namespace Sys2Proof.Machine

/-- One step of the machine: one step of one agent (00_scope.md R13, 20_memory.md R72). -/
def step (s : State) : Host.Outcome State Fault Refusal := s.advance

/-- `s` with the command word of the `nbits` low bits of `w` latched by the engine, so that the next step executes it.
The block fetches nothing (10_state.md R21): this stands for the host's CMD write (notes/assumptions/3). -/
def State.withFetchWord (s : State) (nbits w : Nat) : State := s.readyToRun (BitVec.ofNat 32 (w % 2 ^ nbits))

end Sys2Proof.Machine
end

