-- ==== Sys2Proof/Safety.lean ====
section
/-! DEFINITION. The terms in which claims are stated: validity of a command word as 30_encoding.md R81 puts it, the
result codes of 60_exceptions.md R211, the invariant of the state, and the end of a run (43_control.md R198). -/

namespace Sys2Proof.Machine

/-- The opcodes of R82. -/
def definedOpcodes : List Nat := [0x00, 0x01, 0x02, 0x03, 0x04, 0x10, 0x11, 0x20, 0x21, 0x22, 0x23]

/-- R81, condition by condition: OP is an opcode of R82; RSV = 0; every argument field the opcode's row marks 0 is 0
(all rows mark A but CRC_BYTE, CRC_FBUF and CRC_PBUF, and B but CRC_FBUF and CRC_PBUF). -/
abbrev validWord (w : Word) : Prop :=
  opField w ∈ definedOpcodes ∧ rsvField w = 0 ∧
    (opField w ∉ [0x02, 0x03, 0x04] → aField w = 0) ∧ (opField w ∉ [0x03, 0x04] → bField w = 0)

/-- The result codes a valid word of each command can finish with (R211). -/
def mayFinish : Instr → List Result
  | .nop => [.ok]
  | .crcInit => [.ok]
  | .crcByte _ => [.ok]
  | .crcFbuf _ _ => [.ok, .badArg]
  | .crcPbuf _ _ => [.ok, .badArg]
  | .encode => [.ok, .tooLong, .keyErr]
  | .decode => [.ok, .badLength, .badMagic, .badChecksum, .keyErr]
  | .keyLoad => [.ok]
  | .keyClear => [.ok]
  | .ctrPbuf => [.ok, .tooLong, .keyErr]
  | .aesBlock => [.ok, .keyErr]

/-- The event is a soft reset: a 32-bit write to CTRL with bit 3 = 1 (70_reset_and_hazards.md R241). -/
def Event.isSoftReset : Event → Bool
  | .read _ _ => false
  | .write addr size v => addr == Config.pBase + 0x004 && size == 4 && v.getLsbD 3
  | .rst => false
  | .engine => false

/-- The event is a host access that is no soft reset. -/
def Event.isPlainAccess : Event → Bool
  | .read _ _ => true
  | .write addr size v => !(Event.write addr size v).isSoftReset
  | .rst => false
  | .engine => false

/-- The invariant of the state: the buffer memory has its canonical form, DONE is 0 while a command is pending (R191,
R192), a key that is not valid is erased (R43), and a received payload fits PBUF (R133). -/
structure State.Inv (s : State) : Prop where
  /-- Addresses rise strictly inside the buffers. -/
  mem_wf : s.mem.wf = true
  /-- DONE is set only at completion, which makes the engine idle, and issue clears it. -/
  busy_not_done : s.busy = true → s.done = false
  /-- KEY holds 16 zero bytes whenever KEY_VALID is 0. -/
  key_erased : s.keyValid = false → s.key = 0
  /-- RX_PLEN is at most MAX_PAYLOAD. -/
  rx_bounded : s.rxPlen.toNat ≤ 120

/-- The end of a run (R198): no event is left and no command is pending. -/
abbrev State.final (s : State) : Prop := s.inputs = [] ∧ s.eng = .idle

end Sys2Proof.Machine
end

