-- ==== Sys2Proof/Certificates/Slice0/Obligations.lean ====
section
/-! DEFINITION. The statements for the provers, each a rule of spec/ or a consequence of several. In every frame
`{ s with … }` on the right of an equation, every field that is not named is unchanged. -/

open Sys2Proof Sys2Proof.Machine

/-! ### Encoding (30_encoding.md) -/

/-- Decoding and encoding agree in both directions: a word decodes to `i` exactly when `i` is well-formed and the word
is its encoding. So no bit of a valid word is dropped, and no other word decodes to it (R80, R82, R85). -/
def Obligations.DecodeInvertsEncode : Prop :=
  ∀ (w : Word) (i : Instr), decode w = .instr i ↔ i.wellFormed = true ∧ encode i = w

/-- R81 and R193: the decoder accepts exactly the valid words; an invalid word is still issued, and it completes with
ILLEGAL_CMD and no other effect. `resp`, the model's record of the bus's answer, is left open. -/
def Obligations.ValidityOfCommandWords : Prop :=
  (∀ w : Word, (∃ i, decode w = .instr i) ↔ validWord w) ∧
  ∀ (s : State) (w : Word), ¬ validWord w → s.eng = .idle →
    ∃ t, s.hostWrite (Config.pBase + 0x00C) 4 w = .next t ∧
      t = { s with eng := .busy w, done := false, resp := t.resp } ∧
      t.engineTurn = .next { t with result := .illegalCmd, done := true, eng := .idle }

/-- The encoding examples after R85, and the words of the vectors CRC-15, CTL-2, CTL-3 and ENC-11 that are invalid. -/
def Obligations.SpecWordsDecode : Prop :=
  decode 0x00000000 = .instr .nop ∧ decode 0x00003102 = .instr (.crcByte 0x31) ∧
  decode 0x001A0003 = .instr (.crcFbuf 0 26) ∧ decode 0x00090004 = .instr (.crcPbuf 0 9) ∧
  decode 0x00000010 = .instr .encode ∧ decode 0x00000011 = .instr .decode ∧ decode 0x00000020 = .instr .keyLoad ∧
  decode 0x00000022 = .instr .ctrPbuf ∧ decode 0x00014102 = .rejected .argumentNonzero ∧
  decode 0x00000005 = .rejected .reservedOpcode ∧ decode 0x01000000 = .rejected .reservedFieldNonzero ∧
  decode 0x00000110 = .rejected .argumentNonzero

/-! ### Issue, completion and the step (43_control.md) -/

/-- A step runs the decoded command (the form of a step is the model's: notes/assumptions 1, 2 and 3): when it is the
engine's turn and the latched word decodes to `i`, the step is `exec i`, with nothing around it but the taking of the
engine's turn off the list; and a word placed by `withFetchWord` is what the very next step runs. -/
def Obligations.StepRunsTheLatchedCommand : Prop :=
  ∀ (s : State) (n : Nat) (i : Instr), decode (BitVec.ofNat 32 n) = .instr i →
    (s.eng = .busy (BitVec.ofNat 32 n) →
      (s.inputs = [] → step s = exec i s) ∧
      (∀ rest, s.inputs = .engine :: rest → step s = exec i { s with inputs := rest })) ∧
    step (s.withFetchWord 32 n) = exec i { s with eng := .busy (BitVec.ofNat 32 n), done := false }

/-- R191: a CMD write while idle latches the word, raises BUSY and clears DONE, and so lowers `irq`; while busy it is
refused and does not replace the pending word. `resp`, the model's record of the bus's answer, is left open. -/
def Obligations.IssueLatchesTheWord : Prop :=
  ∀ (s : State) (w : Word),
    (s.eng = .idle →
      ∃ t, s.hostWrite (Config.pBase + 0x00C) 4 w = .next t ∧
        t = { s with eng := .busy w, done := false, resp := t.resp } ∧ t.busy = true ∧ t.irq = false) ∧
    (∀ v, s.eng = .busy v →
      ∃ t, s.hostWrite (Config.pBase + 0x00C) 4 w = .next t ∧ t = { s with haz := true, resp := t.resp })

/-- R195 and R211: whatever word the engine holds, valid or not, its turn completes it: the engine is idle, DONE is set,
and the result is one that R211 lists for the command. -/
def Obligations.EveryCommandCompletes : Prop :=
  ∀ (s : State) (w : Word), s.eng = .busy w →
    ∃ t, s.engineTurn = .next t ∧ t.eng = .idle ∧ t.busy = false ∧ t.done = true ∧
      (∀ i, decode w = .instr i → t.result ∈ mayFinish i) ∧
      (∀ e, decode w = .rejected e → t.result = .illegalCmd)

/-- A command that does not finish OK changes nothing but the completion fields (R10, R122, R124, R134, R211). -/
def Obligations.FailingCommandOnlyCompletes : Prop :=
  ∀ (i : Instr) (s t : State), exec i s = .next t → t.result ≠ .ok →
    t = { s with result := t.result, done := true, eng := .idle }

/-- The frame of every command at once: the state that each command's rule does not name is unchanged by it (R37, R107,
R123, R132, R170-R173). The host's control bits, HAZ, the configuration, the transmit registers but TX_CTR and the
model's own fields are written by no command. Of memory, ENCODE writes at most FBUF[0 .. 23+TX_PLEN), DECODE at most
PBUF[0 .. FBUF[20]), CTR_PBUF at most PBUF[0 .. TX_PLEN), and no other command a byte. -/
def Obligations.CommandsWriteOnlyTheirOutputs : Prop :=
  ∀ (i : Instr) (s t : State), exec i s = .next t →
    (t.encEn = s.encEn ∧ t.irqEn = s.irqEn ∧ t.autoinc = s.autoinc ∧ t.haz = s.haz) ∧
    (t.cfgMagic = s.cfgMagic ∧ t.cfgVersion = s.cfgVersion ∧ t.cfgPtype = s.cfgPtype) ∧
    (t.txType = s.txType ∧ t.txSrc = s.txSrc ∧ t.txDst = s.txDst ∧ t.txNonceHi = s.txNonceHi ∧
      t.txNonceLo = s.txNonceLo ∧ t.txPlen = s.txPlen) ∧
    (t.inputs = s.inputs ∧ t.resp = s.resp ∧ t.resets = s.resets ∧ t.draws = s.draws) ∧
    (i ≠ .encode → t.flen = s.flen ∧ t.txCtr = s.txCtr ∧ t.ctrWrap = s.ctrWrap) ∧
    (i ≠ .encode → i ≠ .decode → t.cipher = s.cipher) ∧
    (i ≠ .keyLoad → i ≠ .keyClear → t.key = s.key ∧ t.keyValid = s.keyValid ∧
      t.key0 = s.key0 ∧ t.key1 = s.key1 ∧ t.key2 = s.key2 ∧ t.key3 = s.key3) ∧
    (i ≠ .aesBlock → t.blk0 = s.blk0 ∧ t.blk1 = s.blk1 ∧ t.blk2 = s.blk2 ∧ t.blk3 = s.blk3) ∧
    (i ≠ .decode → t.rxVer = s.rxVer ∧ t.rxType = s.rxType ∧ t.rxSrc = s.rxSrc ∧ t.rxDst = s.rxDst ∧
      t.rxCtr = s.rxCtr ∧ t.rxNonceHi = s.rxNonceHi ∧ t.rxNonceLo = s.rxNonceLo ∧ t.rxPlen = s.rxPlen ∧
      t.rxCrc = s.rxCrc) ∧
    (i ≠ .crcInit → (∀ d, i ≠ .crcByte d) → (∀ o l, i ≠ .crcFbuf o l) → (∀ o l, i ≠ .crcPbuf o l) →
      t.crcVal = s.crcVal) ∧
    (i = .encode → ∀ a, a < fbufBase ∨ fbufBase + (23 + s.txLen) ≤ a → t.byteAt a = s.byteAt a) ∧
    (i = .decode → ∀ a, a < pbufBase ∨ pbufBase + s.rxLen ≤ a → t.byteAt a = s.byteAt a) ∧
    (i = .ctrPbuf → ∀ a, a < pbufBase ∨ pbufBase + s.txLen ≤ a → t.byteAt a = s.byteAt a) ∧
    (i ≠ .encode → i ≠ .decode → i ≠ .ctrPbuf → ∀ a, t.byteAt a = s.byteAt a)

/-- R190: NOP completes with OK and has no other effect. -/
def Obligations.NopOnlyCompletes : Prop :=
  ∀ s : State, exec .nop s = .next { s with result := .ok, done := true, eng := .idle }

/-! ### The checksum (40_crc.md) -/

/-- R102: CRC_INIT sets CRC_VAL to 0xFFFF, finishes OK and changes nothing else. -/
def Obligations.CrcInitSetsAllOnes : Prop :=
  ∀ s : State, exec .crcInit s = .next { s with crcVal := 0xFFFF, result := .ok, done := true, eng := .idle }

/-- R103, with the shift register of R101 written bit by bit: CRC_BYTE feeds the data byte's bits, most significant
first, each through `c <- (c << 1) ⊕ (c[15] ⊕ bit ? 0x1021 : 0)`, and changes nothing but CRC_VAL. -/
def Obligations.CrcByteIsBitSerial : Prop :=
  ∀ (data : Byte) (s : State),
    exec (.crcByte data) s = .next { s with
      crcVal := [7, 6, 5, 4, 3, 2, 1, 0].foldl
        (fun (c : Half) (k : Nat) => (c <<< 1) ^^^ (if c.getLsbD 15 != data.getLsbD k then 0x1021 else 0)) s.crcVal,
      result := .ok, done := true, eng := .idle }

/-- R104: CRC_FBUF feeds exactly the bytes FBUF[off .. off+len), or finishes BAD_ARG when the range leaves FBUF; nothing
but CRC_VAL and the completion fields changes. -/
def Obligations.CrcFbufFeedsTheRange : Prop :=
  ∀ (off len : Nat) (s : State),
    (off + len ≤ 144 → ∀ bytes : List Byte, bytes.length = len →
      (∀ k, k < len → bytes[k]? = some (s.byteAt (0x100 + off + k))) →
      exec (.crcFbuf off len) s =
        .next { s with crcVal := crc16 bytes s.crcVal, result := .ok, done := true, eng := .idle }) ∧
    (144 < off + len →
      exec (.crcFbuf off len) s = .next { s with result := .badArg, done := true, eng := .idle })

/-- R105: CRC_PBUF, likewise, over PBUF with the limit 120. -/
def Obligations.CrcPbufFeedsTheRange : Prop :=
  ∀ (off len : Nat) (s : State),
    (off + len ≤ 120 → ∀ bytes : List Byte, bytes.length = len →
      (∀ k, k < len → bytes[k]? = some (s.byteAt (0x200 + off + k))) →
      exec (.crcPbuf off len) s =
        .next { s with crcVal := crc16 bytes s.crcVal, result := .ok, done := true, eng := .idle }) ∧
    (120 < off + len →
      exec (.crcPbuf off len) s = .next { s with result := .badArg, done := true, eng := .idle })

/-- R106, the residue law: a byte string followed by its big-endian checksum has checksum 0. -/
def Obligations.CrcResidueIsZero : Prop :=
  ∀ S : List Byte, crc16 (S ++ be 2 (crc16 S 0xFFFF).toNat) 0xFFFF = 0

/-- R106, one byte past the checksum: after S and its high checksum byte, the register holds the low checksum byte in
its high byte and zeros below; so S, its checksum and one 0x00 byte carry a correct checksum at their own length. -/
def Obligations.CrcOneBytePastTheChecksum : Prop :=
  ∀ S : List Byte,
    crc16 (S ++ [(crc16 S 0xFFFF).extractLsb' 8 8]) 0xFFFF = ((crc16 S 0xFFFF).setWidth 8).setWidth 16 <<< 8

/-- R106, the affine law over strings of equal length. -/
def Obligations.CrcIsAffine : Prop :=
  ∀ (S T : List Byte) (c : Half), S.length = T.length →
    crc16 (xorBytes S T) c = crc16 S c ^^^ crc16 T c ^^^ crc16 (List.replicate S.length 0) c

/-- R106, error detection: an error pattern with an odd number of wrong bits changes the checksum. -/
def Obligations.CrcDetectsOddErrors : Prop :=
  ∀ (S T : List Byte) (c : Half), S.length = T.length →
    ((List.range (8 * S.length)).countP fun k =>
      (S.getD (k / 8) 0).getLsbD (7 - k % 8) != (T.getD (k / 8) 0).getLsbD (7 - k % 8)) % 2 = 1 →
    crc16 S c ≠ crc16 T c

/-- R106, error detection: an error burst of at most 16 bits, at any bit position `p` counted from the first byte's most
significant bit, changes the checksum. -/
def Obligations.CrcDetectsBursts : Prop :=
  ∀ (S T : List Byte) (c : Half) (p : Nat), S.length = T.length → S ≠ T →
    (∀ k, k < p ∨ p + 16 ≤ k →
      (S.getD (k / 8) 0).getLsbD (7 - k % 8) = (T.getD (k / 8) 0).getLsbD (7 - k % 8)) →
    crc16 S c ≠ crc16 T c

/-! ### The frame codec (41_frame_codec.md) -/

/-- R120 with the layout of R86: when the payload fits and no key is missing, ENCODE finishes OK; FLEN is 23 + L; every
byte of the frame is the one R86 puts at its offset, integers big-endian; payload byte j is the plaintext byte or its
exclusive or with keystream byte j; the checksum is that of the bytes before it; and every byte outside FBUF[0 .. 23+L)
is as before. -/
def Obligations.EncodeLaysOutTheFrame : Prop :=
  ∀ s : State, s.txPlen.toNat ≤ 120 → (s.keyValid = true ∨ s.cipherNeeded s.txType = false) →
    ∃ t, exec .encode s = .next t ∧ t.result = .ok ∧ t.done = true ∧ t.eng = .idle ∧
      t.flen.toNat = 23 + s.txPlen.toNat ∧ t.cipher = s.cipherNeeded s.txType ∧
      (t.byteAt 0x100 = s.cfgMagic.extractLsb' 8 8 ∧ t.byteAt 0x101 = s.cfgMagic.extractLsb' 0 8 ∧
        t.byteAt 0x102 = s.cfgVersion ∧ t.byteAt 0x103 = s.txType ∧
        t.byteAt 0x104 = s.txSrc.extractLsb' 8 8 ∧ t.byteAt 0x105 = s.txSrc.extractLsb' 0 8 ∧
        t.byteAt 0x106 = s.txDst.extractLsb' 8 8 ∧ t.byteAt 0x107 = s.txDst.extractLsb' 0 8) ∧
      (∀ k, k < 4 → t.byteAt (0x108 + k) = s.txCtr.extractLsb' (24 - 8 * k) 8 ∧
        t.byteAt (0x10C + k) = s.txNonceHi.extractLsb' (24 - 8 * k) 8 ∧
        t.byteAt (0x110 + k) = s.txNonceLo.extractLsb' (24 - 8 * k) 8) ∧
      t.byteAt 0x114 = s.txPlen ∧
      (∀ j, j < s.txPlen.toNat → t.byteAt (0x115 + j) =
        if s.cipherNeeded s.txType then
          s.byteAt (0x200 + j) ^^^ (keystream s.keyBytes s.txNonce s.txCtr s.txPlen.toNat).getD j 0
        else s.byteAt (0x200 + j)) ∧
      (t.byteAt (0x115 + s.txPlen.toNat) ++ t.byteAt (0x116 + s.txPlen.toNat) : BitVec 16) =
        crc16 ((List.range (21 + s.txPlen.toNat)).map fun k => t.byteAt (0x100 + k)) 0xFFFF ∧
      (∀ a, a < 0x100 ∨ 0x100 + (23 + s.txPlen.toNat) ≤ a → t.byteAt a = s.byteAt a)

/-- R123, the frame of an ENCODE: it writes FBUF, FLEN, STATUS.CIPHER, the completion fields and, under AUTOINC, TX_CTR
and CTR_WRAP, and nothing else; PBUF keeps the plaintext. -/
def Obligations.EncodeWritesOnlyItsOutputs : Prop :=
  ∀ s t : State, exec .encode s = .next t →
    t = { s with mem := t.mem, flen := t.flen, cipher := t.cipher, txCtr := t.txCtr, ctrWrap := t.ctrWrap,
                 result := t.result, done := true, eng := .idle } ∧
    (∀ k, k < 120 → t.byteAt (0x200 + k) = s.byteAt (0x200 + k)) ∧
    (s.autoinc = false → t.txCtr = s.txCtr ∧ t.ctrWrap = s.ctrWrap)

/-- R122: TX_PLEN > 120 gives TOO_LONG, whatever the key, and nothing but the completion fields is written. -/
def Obligations.EncodeChecksLengthFirst : Prop :=
  ∀ s : State, 120 < s.txPlen.toNat →
    exec .encode s = .next { s with result := .tooLong, done := true, eng := .idle }

/-- R124: when the cipher is needed and no key is loaded, ENCODE finishes KEY_ERR and writes nothing but the completion
fields, so no unenciphered payload reaches FBUF. The type is none of the four codes of CFG_PTYPE. -/
def Obligations.EncodeNeverSubstitutesPlaintext : Prop :=
  ∀ s : State, s.txPlen.toNat ≤ 120 → s.encEn = true → s.keyValid = false →
    (∀ k, k < 4 → s.txType ≠ s.cfgPtype.extractLsb' (8 * k) 8) →
    exec .encode s = .next { s with result := .keyErr, done := true, eng := .idle }

/-- R125: exactly an ENCODE that finishes OK with AUTOINC = 1 steps TX_CTR, mod 2^32, and sets CTR_WRAP when the counter
after the increment is 0, while the frame holds the counter before it; any other completion leaves TX_CTR and CTR_WRAP.
-/
def Obligations.AutoincStepsTheCounter : Prop :=
  ∀ (i : Instr) (s t : State), exec i s = .next t →
    if i = .encode ∧ t.result = .ok ∧ s.autoinc = true then
      t.txCtr.toNat = (s.txCtr.toNat + 1) % 2 ^ 32 ∧ t.ctrWrap = (s.ctrWrap || decide (t.txCtr = 0)) ∧
        ∀ k, k < 4 → t.byteAt (0x108 + k) = s.txCtr.extractLsb' (24 - 8 * k) 8
    else t.txCtr = s.txCtr ∧ t.ctrWrap = s.ctrWrap

/-- R133: DECODE's result is the first failing check, in the order length bounds, magic, checksum, exact length, key. -/
def Obligations.DecodeChecksInOrder : Prop :=
  ∀ s : State, ∃ t, exec .decode s = .next t ∧ t.done = true ∧ t.eng = .idle ∧ t.result =
    if s.flen.toNat < 22 ∨ 143 < s.flen.toNat then .badLength
    else if s.byteAt 0x100 ≠ s.cfgMagic.extractLsb' 8 8 ∨ s.byteAt 0x101 ≠ s.cfgMagic.extractLsb' 0 8 then .badMagic
    else if crc16 ((List.range (s.flen.toNat - 2)).map fun k => s.byteAt (0x100 + k)) 0xFFFF ≠
        (s.byteAt (0x100 + (s.flen.toNat - 2)) ++ s.byteAt (0x100 + (s.flen.toNat - 1)) : BitVec 16) then .badChecksum
    else if 21 + (s.byteAt 0x114).toNat + 2 ≠ s.flen.toNat then .badLength
    else if s.cipherNeeded (s.byteAt 0x103) = true ∧ s.keyValid = false then .keyErr
    else .ok

/-- R130 and R132: a frame that passes the five checks is unpacked: every RX_ register holds its field, PBUF[0..L) holds
the payload (deciphered exactly when the cipher is needed for the received type, with the frame's own nonce and
counter), STATUS.CIPHER says which, and nothing else changes. -/
def Obligations.DecodeUnpacksTheFrame : Prop :=
  ∀ s : State, s.flen.toNat = 23 + (s.byteAt 0x114).toNat → s.flen.toNat ≤ 143 →
    s.byteAt 0x100 = s.cfgMagic.extractLsb' 8 8 → s.byteAt 0x101 = s.cfgMagic.extractLsb' 0 8 →
    crc16 ((List.range (s.flen.toNat - 2)).map fun k => s.byteAt (0x100 + k)) 0xFFFF =
      (s.byteAt (0x100 + (s.flen.toNat - 2)) ++ s.byteAt (0x100 + (s.flen.toNat - 1)) : BitVec 16) →
    (s.keyValid = true ∨ s.cipherNeeded (s.byteAt 0x103) = false) →
    ∃ m, exec .decode s = .next { s with
        rxVer := s.byteAt 0x102, rxType := s.byteAt 0x103,
        rxSrc := s.byteAt 0x104 ++ s.byteAt 0x105, rxDst := s.byteAt 0x106 ++ s.byteAt 0x107,
        rxCtr := s.byteAt 0x108 ++ s.byteAt 0x109 ++ s.byteAt 0x10A ++ s.byteAt 0x10B,
        rxNonceHi := s.byteAt 0x10C ++ s.byteAt 0x10D ++ s.byteAt 0x10E ++ s.byteAt 0x10F,
        rxNonceLo := s.byteAt 0x110 ++ s.byteAt 0x111 ++ s.byteAt 0x112 ++ s.byteAt 0x113,
        rxPlen := s.byteAt 0x114,
        rxCrc := s.byteAt (0x100 + (s.flen.toNat - 2)) ++ s.byteAt (0x100 + (s.flen.toNat - 1)),
        cipher := s.cipherNeeded (s.byteAt 0x103),
        mem := m, result := .ok, done := true, eng := .idle } ∧
      (∀ j, j < (s.byteAt 0x114).toNat → ({ s with mem := m } : State).byteAt (0x200 + j) =
        if s.cipherNeeded (s.byteAt 0x103) then
          s.byteAt (0x115 + j) ^^^
            (keystream s.keyBytes ((List.range 8).map fun k => s.byteAt (0x10C + k))
              (s.byteAt 0x108 ++ s.byteAt 0x109 ++ s.byteAt 0x10A ++ s.byteAt 0x10B)
              (s.byteAt 0x114).toNat).getD j 0
        else s.byteAt (0x115 + j)) ∧
      (∀ a, a < 0x200 ∨ 0x200 + (s.byteAt 0x114).toNat ≤ a → ({ s with mem := m } : State).byteAt a = s.byteAt a)

/-- R136, round trip: after an ENCODE that finishes OK, a DECODE in any state with the same frame, FLEN, CFG_MAGIC,
CFG_PTYPE, ENC_EN and key finishes OK and recovers every field and the payload that ENCODE read. -/
def Obligations.DecodeRecoversWhatEncodeSent : Prop :=
  ∀ s t u : State, exec .encode s = .next t → t.result = .ok →
    (∀ k, k < t.flen.toNat → u.byteAt (0x100 + k) = t.byteAt (0x100 + k)) → u.flen = t.flen →
    u.cfgMagic = t.cfgMagic → u.cfgPtype = t.cfgPtype → u.encEn = t.encEn → u.key = t.key → u.keyValid = t.keyValid →
    ∃ v, exec .decode u = .next v ∧ v.result = .ok ∧ v.rxType = s.txType ∧ v.rxSrc = s.txSrc ∧ v.rxDst = s.txDst ∧
      v.rxCtr = s.txCtr ∧ v.rxNonceHi = s.txNonceHi ∧ v.rxNonceLo = s.txNonceLo ∧ v.rxPlen = s.txPlen ∧
      v.rxVer = s.cfgVersion ∧ v.cipher = t.cipher ∧
      ∀ j, j < s.txPlen.toNat → v.byteAt (0x200 + j) = s.byteAt (0x200 + j)

/-- R136, checksum sensitivity: flip any single bit of a frame that ENCODE built, and DECODE does not finish OK: it
gives BAD_MAGIC for a bit of byte 0 or 1 and BAD_CHECKSUM for any other. -/
def Obligations.SingleBitFlipIsRejected : Prop :=
  ∀ (s t u : State) (p b : Nat), exec .encode s = .next t → t.result = .ok →
    u.flen = t.flen → u.cfgMagic = t.cfgMagic → p < t.flen.toNat → b < 8 →
    u.byteAt (0x100 + p) = t.byteAt (0x100 + p) ^^^ BitVec.twoPow 8 b →
    (∀ k, k < t.flen.toNat → k ≠ p → u.byteAt (0x100 + k) = t.byteAt (0x100 + k)) →
    ∃ v, exec .decode u = .next v ∧ v.result = if p < 2 then .badMagic else .badChecksum

/-- R136: ENCODE is the identity on the payload when the cipher is not needed: with ENC_EN = 0, or a type that is one of
the four codes of CFG_PTYPE, FBUF[21..21+L) = PBUF[0..L). -/
def Obligations.EncodeIsIdentityWithoutCipher : Prop :=
  ∀ s : State, s.txPlen.toNat ≤ 120 →
    (s.encEn = false ∨ ∃ k, k < 4 ∧ s.txType = s.cfgPtype.extractLsb' (8 * k) 8) →
    ∃ t, exec .encode s = .next t ∧ t.result = .ok ∧ t.cipher = false ∧
      ∀ j, j < s.txPlen.toNat → t.byteAt (0x100 + (21 + j)) = s.byteAt (0x200 + j)

/-- R133 (b) and R130's corner cases: a 22-byte input is never accepted, and an accepted frame has L ≤ 120 and N = 23 +
L. -/
def Obligations.AcceptedFramesAreExact : Prop :=
  ∀ s t : State, exec .decode s = .next t →
    (t.result = .ok → t.rxPlen.toNat ≤ 120 ∧ s.flen.toNat = 23 + t.rxPlen.toNat) ∧
    (s.flen.toNat = 22 → t.result = .badMagic ∨ t.result = .badChecksum ∨ t.result = .badLength)

/-- R130's corner case with R106: a frame that DECODE accepts, followed by one 0x00 byte and presented as one byte
longer, passes the checksum and is rejected as BAD_LENGTH. -/
def Obligations.TrailingZeroByteIsBadLength : Prop :=
  ∀ s t u : State, exec .decode s = .next t → t.result = .ok →
    u.flen.toNat = s.flen.toNat + 1 → u.cfgMagic = s.cfgMagic →
    (∀ k, k < s.flen.toNat → u.byteAt (0x100 + k) = s.byteAt (0x100 + k)) → u.byteAt (0x100 + s.flen.toNat) = 0 →
    crc16 ((List.range (u.flen.toNat - 2)).map fun k => u.byteAt (0x100 + k)) 0xFFFF =
      (u.byteAt (0x100 + (u.flen.toNat - 2)) ++ u.byteAt (0x100 + (u.flen.toNat - 1)) : BitVec 16) ∧
    exec .decode u = .next { u with result := .badLength, done := true, eng := .idle }

/-! ### The cipher (42_cipher.md) -/

/-- R157: the known answers a model of E must reproduce, and the last round key of the first. -/
def Obligations.AesKnownAnswers : Prop :=
  aesEncrypt (be 16 0x000102030405060708090A0B0C0D0E0F) (be 16 0x00112233445566778899AABBCCDDEEFF) =
    be 16 0x69C4E0D86A7B0430D8CDB78070B4C55A ∧
  ((expandKey (be 16 0x000102030405060708090A0B0C0D0E0F)).drop 40).flatten = be 16 0x13111D7FE3944A17F307A78B4D2B30C5 ∧
  aesEncrypt (be 16 0) (be 16 0) = be 16 0x66E94BD4EF8A2C3B884CFA59CA342B2E

/-- R152 and R153: the S-box table agrees with its formula: bit i of Sbox[x] is b[i] ⊕ b[i+4] ⊕ b[i+5] ⊕ b[i+6] ⊕ b[i+7]
⊕ 0x63[i], indices mod 8, where b = inv(x): b = 0 for x = 0, and else the b with x•b = 1, the product in GF(2^8) being
the sum of the xtime powers of x that b's bits select. -/
def Obligations.SboxIsAffineInverse : Prop :=
  ∀ x : Byte, ∃ b : Byte,
    (if x = 0 then b = 0
     else (List.range 8).foldl
        (fun acc k => acc ^^^ (if b.getLsbD k then (xtime^[k]) x else 0)) (0 : Byte) = 1) ∧
    ∀ i, i < 8 → (sbox x).getLsbD i =
      (b.getLsbD i ^^ b.getLsbD ((i + 4) % 8) ^^ b.getLsbD ((i + 5) % 8) ^^ b.getLsbD ((i + 6) % 8) ^^
        b.getLsbD ((i + 7) % 8) ^^ (0x63 : Byte).getLsbD i)

/-- R160 and R161: the keystream has exactly L bytes, byte i is byte i mod 16 of the block E(K, CB_(i/16)), and a
shorter keystream is a prefix of a longer one. -/
def Obligations.KeystreamIsBlockwise : Prop :=
  ∀ (k nonce : List Byte) (ctr : Word) (len : Nat),
    (keystream k nonce ctr len).length = len ∧
    (∀ i, i < len → (keystream k nonce ctr len)[i]? = (aesEncrypt k (counterBlock nonce ctr (i / 16)))[i % 16]?) ∧
    (∀ len', len ≤ len' → keystream k nonce ctr len <+: keystream k nonce ctr len')

/-- R170: KEY_LOAD commits the staged key, KEY0 first, sets KEY_VALID and clears the staging; a second KEY_LOAD with no
staging write between loads the all-zero key. -/
def Obligations.KeyLoadCommitsTheStagedKey : Prop :=
  ∀ s : State,
    exec .keyLoad s = .next { s with
      key := s.key0 ++ s.key1 ++ s.key2 ++ s.key3, keyValid := true, key0 := 0, key1 := 0, key2 := 0, key3 := 0,
      result := .ok, done := true, eng := .idle } ∧
    ∀ t, exec .keyLoad s = .next t →
      exec .keyLoad t = .next { t with key := 0, keyValid := true, result := .ok, done := true, eng := .idle }

/-- R171: KEY_CLEAR erases the key and the staging; after it every CTR_PBUF with a payload that fits and every AES_BLOCK
finishes KEY_ERR. -/
def Obligations.KeyClearErasesTheKey : Prop :=
  ∀ s : State, ∃ t,
    t = { s with key := 0, keyValid := false, key0 := 0, key1 := 0, key2 := 0, key3 := 0,
                 result := .ok, done := true, eng := .idle } ∧
    exec .keyClear s = .next t ∧
    exec .aesBlock t = .next { t with result := .keyErr } ∧
    (s.txPlen.toNat ≤ 120 → exec .ctrPbuf t = .next { t with result := .keyErr })

/-- R172: CTR_PBUF with a payload that fits and a key loaded finishes OK and exclusive-ors byte j of PBUF[0..L) with
keystream byte j, whatever ENC_EN and TX_TYPE; no other byte and nothing but the completion fields changes. TOO_LONG is
checked before KEY_ERR. -/
def Obligations.CtrPbufAppliesTheKeystream : Prop :=
  ∀ s : State,
    (s.txPlen.toNat ≤ 120 → s.keyValid = true → ∃ m,
      exec .ctrPbuf s = .next { s with mem := m, result := .ok, done := true, eng := .idle } ∧
      (∀ j, j < s.txPlen.toNat → ({ s with mem := m } : State).byteAt (0x200 + j) =
        s.byteAt (0x200 + j) ^^^
          (keystream s.keyBytes (be 4 s.txNonceHi.toNat ++ be 4 s.txNonceLo.toNat) s.txCtr s.txPlen.toNat).getD j 0) ∧
      (∀ a, a < 0x200 ∨ 0x200 + s.txPlen.toNat ≤ a → ({ s with mem := m } : State).byteAt a = s.byteAt a)) ∧
    (120 < s.txPlen.toNat →
      exec .ctrPbuf s = .next { s with result := .tooLong, done := true, eng := .idle }) ∧
    (s.txPlen.toNat ≤ 120 → s.keyValid = false →
      exec .ctrPbuf s = .next { s with result := .keyErr, done := true, eng := .idle })

/-- R161, involution: CTR_PBUF run twice with nothing changed between restores every byte of the buffers. -/
def Obligations.CtrPbufIsAnInvolution : Prop :=
  ∀ s : State, s.txPlen.toNat ≤ 120 → s.keyValid = true →
    ∃ t u, exec .ctrPbuf s = .next t ∧ t.result = .ok ∧ exec .ctrPbuf t = .next u ∧ u.result = .ok ∧
      ∀ a, u.byteAt a = s.byteAt a

/-- R173: AES_BLOCK with a key loaded replaces the block register by its encryption, byte i of the result in
BLK⌊i/4⌋[31−8(i mod 4) : 24−8(i mod 4)], and changes nothing else; without a key it finishes KEY_ERR with BLK unchanged.
-/
def Obligations.AesBlockEnciphersTheBlock : Prop :=
  ∀ s : State,
    (s.keyValid = true → ∃ b0 b1 b2 b3 : Word,
      exec .aesBlock s = .next { s with
        blk0 := b0, blk1 := b1, blk2 := b2, blk3 := b3, result := .ok, done := true, eng := .idle } ∧
      be 4 b0.toNat ++ be 4 b1.toNat ++ be 4 b2.toNat ++ be 4 b3.toNat =
        aesEncrypt (be 16 s.key.toNat)
          (be 4 s.blk0.toNat ++ be 4 s.blk1.toNat ++ be 4 s.blk2.toNat ++ be 4 s.blk3.toNat)) ∧
    (s.keyValid = false →
      exec .aesBlock s = .next { s with result := .keyErr, done := true, eng := .idle })

/-- R173's corner case: with BLK set to counter block j of the transmit nonce and counter, for any of the 8 blocks a
payload can use, AES_BLOCK leaves in BLK the keystream bytes 16j to 16j+15 that CTR_PBUF and ENCODE use, as far as a
payload of 120 bytes reaches. -/
def Obligations.AesBlockYieldsAKeystreamBlock : Prop :=
  ∀ (s : State) (j : Nat), j < 8 → s.keyValid = true →
    s.blk0 = s.txNonceHi → s.blk1 = s.txNonceLo → s.blk2 = s.txCtr → s.blk3 = BitVec.ofNat 32 j →
    ∃ t, exec .aesBlock s = .next t ∧ t.result = .ok ∧
      ∀ i, i < 16 → 16 * j + i < 120 →
        (be 4 t.blk0.toNat ++ be 4 t.blk1.toNat ++ be 4 t.blk2.toNat ++ be 4 t.blk3.toNat)[i]? =
          (keystream s.keyBytes s.txNonce s.txCtr 120)[16 * j + i]?

/-- R174: no read returns the key: a host read answers the same, and leaves the same state, whatever KEY and the staging
registers hold. -/
def Obligations.KeyIsNeverReadable : Prop :=
  ∀ (s t : State) (addr size : Nat) (k : BitVec 128) (k0 k1 k2 k3 : Word),
    s.hostRead addr size = .next t →
    ({ s with key := k, key0 := k0, key1 := k1, key2 := k2, key3 := k3 } : State).hostRead addr size =
      .next { t with key := k, key0 := k0, key1 := k1, key2 := k2, key3 := k3 }

/-! ### The bus (20_memory.md, 10_state.md) -/

/-- R61 and R63: an access of another width, or at an offset in the window that is no multiple of 4, raises BusError at
its address, read or write, busy or not (R252). -/
def Obligations.WrongWidthOrAlignmentFaults : Prop :=
  ∀ (s : State) (o size : Nat) (v : Word), o < 0x400 → (size ≠ 4 ∨ o % 4 ≠ 0) →
    s.hostRead (Config.pBase + o) size = .fault (.busError (Config.pBase + o)) ∧
    s.hostWrite (Config.pBase + o) size v = .fault (.busError (Config.pBase + o))

/-- R62 and R20: a 32-bit access at an offset of the window that the table does not list raises BusError, busy or not;
an access at a listed offset does not fault when it is a read. -/
def Obligations.ExactlyTheUnlistedOffsetsFault : Prop :=
  ∀ (s : State) (o : Nat) (v : Word), o < 0x400 → o % 4 = 0 →
    if o ≤ 0x014 ∨ (0x020 ≤ o ∧ o ≤ 0x038) ∨ (0x040 ≤ o ∧ o ≤ 0x060) ∨ (0x070 ≤ o ∧ o ≤ 0x078) ∨
        (0x080 ≤ o ∧ o ≤ 0x09C) ∨ (0x100 ≤ o ∧ o ≤ 0x18C) ∨ (0x200 ≤ o ∧ o ≤ 0x274) then
      ∃ t, s.hostRead (Config.pBase + o) 4 = .next t
    else
      s.hostRead (Config.pBase + o) 4 = .fault (.busError (Config.pBase + o)) ∧
      s.hostWrite (Config.pBase + o) 4 v = .fault (.busError (Config.pBase + o))

/-- R64: a write to ID or to an RX_ register raises BusError; a read of CMD or KEY0-KEY3 while idle returns 0 and has no
effect on the block; a write to STATUS never faults. What `resp` holds, the bus's answer, is the model's convention
(notes/assumptions 12), and a write-only register read while busy is another statement's (notes/assumptions 11). -/
def Obligations.ReadOnlyAndWriteOnlyRegisters : Prop :=
  ∀ (s : State) (v : Word),
    (∀ o ∈ [0x000, 0x040, 0x044, 0x048, 0x04C, 0x050, 0x054, 0x058, 0x05C, 0x060],
      s.hostWrite (Config.pBase + o) 4 v = .fault (.busError (Config.pBase + o))) ∧
    (s.eng = .idle → ∀ o ∈ [0x00C, 0x080, 0x084, 0x088, 0x08C],
      s.hostRead (Config.pBase + o) 4 = .next { s with resp := .data 0 }) ∧
    (∃ t, s.hostWrite (Config.pBase + 0x008) 4 v = .next t)

/-- R20 and R26-R36: an idle write to the offset of a register that the host writes puts the word, cut to the register's
defined bits, into the field of that name and nowhere else; a read of the offset then returns those bits, the reserved
bits 0. KEY0 to KEY3 take the word (R35) and read 0, so their second number is 0. What `resp` holds is the model's
convention (notes/assumptions 12). -/
def Obligations.RegistersReadBackTheirDefinedBits : Prop :=
  ∀ (s : State) (v : Word), s.eng = .idle →
    ∀ p ∈ ([(0x010, 8, { s with flen := v.setWidth 8 }), (0x014, 16, { s with crcVal := v.setWidth 16 }),
        (0x020, 8, { s with txType := v.setWidth 8 }), (0x024, 16, { s with txSrc := v.setWidth 16 }),
        (0x028, 16, { s with txDst := v.setWidth 16 }), (0x02C, 32, { s with txCtr := v }),
        (0x030, 32, { s with txNonceHi := v }), (0x034, 32, { s with txNonceLo := v }),
        (0x038, 8, { s with txPlen := v.setWidth 8 }), (0x070, 16, { s with cfgMagic := v.setWidth 16 }),
        (0x074, 8, { s with cfgVersion := v.setWidth 8 }), (0x078, 32, { s with cfgPtype := v }),
        (0x080, 0, { s with key0 := v }), (0x084, 0, { s with key1 := v }), (0x088, 0, { s with key2 := v }),
        (0x08C, 0, { s with key3 := v }), (0x090, 32, { s with blk0 := v }), (0x094, 32, { s with blk1 := v }),
        (0x098, 32, { s with blk2 := v }), (0x09C, 32, { s with blk3 := v })] : List (Nat × Nat × State)),
      ∃ t, s.hostWrite (Config.pBase + p.1) 4 v = .next t ∧ t = { p.2.2 with resp := t.resp } ∧
        t.hostRead (Config.pBase + p.1) 4 =
          .next { t with resp := .data (BitVec.ofNat 32 (v.toNat % 2 ^ p.2.1)) }

/-- R20, R22 and R26-R36: an idle read of ID returns its constant, an idle read of any other readable register the field
of that name with zeros above its defined bits, and an idle read of a buffer word its four bytes, the lowest in bits
31:24; nothing of the block changes. CTRL and STATUS, and the write-only registers, are other statements'. What `resp`
holds is the model's convention (notes/assumptions 12). -/
def Obligations.IdleReadsReturnTheRegister : Prop :=
  ∀ s : State, s.eng = .idle →
    (∀ p ∈ ([(0x000, 0x46434331), (0x010, s.flen.setWidth 32), (0x014, s.crcVal.setWidth 32),
        (0x020, s.txType.setWidth 32), (0x024, s.txSrc.setWidth 32), (0x028, s.txDst.setWidth 32), (0x02C, s.txCtr),
        (0x030, s.txNonceHi), (0x034, s.txNonceLo), (0x038, s.txPlen.setWidth 32),
        (0x040, s.rxVer.setWidth 32), (0x044, s.rxType.setWidth 32), (0x048, s.rxSrc.setWidth 32),
        (0x04C, s.rxDst.setWidth 32), (0x050, s.rxCtr), (0x054, s.rxNonceHi), (0x058, s.rxNonceLo),
        (0x05C, s.rxPlen.setWidth 32), (0x060, s.rxCrc.setWidth 32),
        (0x070, s.cfgMagic.setWidth 32), (0x074, s.cfgVersion.setWidth 32), (0x078, s.cfgPtype),
        (0x090, s.blk0), (0x094, s.blk1), (0x098, s.blk2), (0x09C, s.blk3)] : List (Nat × Word)),
      s.hostRead (Config.pBase + p.1) 4 = .next { s with resp := .data p.2 }) ∧
    ∀ o, o % 4 = 0 → (0x100 ≤ o ∧ o ≤ 0x18C ∨ 0x200 ≤ o ∧ o ≤ 0x274) →
      s.hostRead (Config.pBase + o) 4 = .next { s with
        resp := .data (s.byteAt o ++ s.byteAt (o + 1) ++ s.byteAt (o + 2) ++ s.byteAt (o + 3)) }

/-- R40, R41 and R66: a write to a buffer word while idle puts bits 31−8j : 24−8j into byte 4k+j of its buffer and
leaves every other byte and register as before, and the word reads back. What `resp` holds is the model's convention
(notes/assumptions 12). -/
def Obligations.BufferWordsAreBigEndian : Prop :=
  ∀ (s : State) (v : Word) (o : Nat), s.eng = .idle → o % 4 = 0 →
    (0x100 ≤ o ∧ o ≤ 0x18C ∨ 0x200 ≤ o ∧ o ≤ 0x274) →
    ∃ t, s.hostWrite (Config.pBase + o) 4 v = .next t ∧ t = { s with mem := t.mem, resp := .ack } ∧
      (∀ j, j < 4 → t.byteAt (o + j) = v.extractLsb' (24 - 8 * j) 8) ∧
      (∀ a, a < o ∨ o + 4 ≤ a → t.byteAt a = s.byteAt a) ∧
      t.hostRead (Config.pBase + o) 4 = .next { t with resp := .data v }

/-- R24: a read of STATUS, busy or not, returns BUSY, DONE, HAZ, CTR_WRAP, RESULT, KEY_VALID and CIPHER at their bits,
RESULT as the number that R210 gives the code, and 0 above bit 9, with no side effect; a write clears DONE, HAZ and
CTR_WRAP where it has a 1 and nothing else. What `resp` holds, the bus's answer, is the model's convention
(notes/assumptions 12 and 13). -/
def Obligations.StatusBitsAndW1C : Prop :=
  ∀ (s : State) (v : Word),
    (∃ w, s.hostRead (Config.pBase + 0x008) 4 = .next { s with resp := .data w } ∧
      (w.getLsbD 0 = true ↔ s.eng ≠ .idle) ∧ w.getLsbD 1 = s.done ∧ w.getLsbD 2 = s.haz ∧ w.getLsbD 3 = s.ctrWrap ∧
      (∀ p ∈ [(Result.ok, 0), (.illegalCmd, 1), (.badArg, 2), (.tooLong, 3), (.keyErr, 4), (.badLength, 5),
        (.badMagic, 6), (.badChecksum, 7)], s.result = p.1 → (w.extractLsb' 4 4).toNat = p.2) ∧
      w.getLsbD 8 = s.keyValid ∧ w.getLsbD 9 = s.cipher ∧ w.toNat < 2 ^ 10) ∧
    s.hostWrite (Config.pBase + 0x008) 4 v = .next { s with
      done := s.done && !v.getLsbD 1, haz := s.haz && !v.getLsbD 2, ctrWrap := s.ctrWrap && !v.getLsbD 3,
      resp := .ack }

/-- R23: a read of CTRL, busy or not, returns ENC_EN, IRQ_EN and AUTOINC in bits 0 to 2 and 0 above; a write while idle
with bit 3 = 0 writes those three and nothing else. What `resp` holds, the bus's answer, is the model's convention
(notes/assumptions 12 and 13). -/
def Obligations.CtrlBits : Prop :=
  ∀ (s : State) (v : Word),
    (∃ w, s.hostRead (Config.pBase + 0x004) 4 = .next { s with resp := .data w } ∧
      w.getLsbD 0 = s.encEn ∧ w.getLsbD 1 = s.irqEn ∧ w.getLsbD 2 = s.autoinc ∧ w.toNat < 8) ∧
    (s.eng = .idle → v.getLsbD 3 = false →
      s.hostWrite (Config.pBase + 0x004) 4 v = .next { s with
        encEn := v.getLsbD 0, irqEn := v.getLsbD 1, autoinc := v.getLsbD 2, resp := .ack })

/-- R215: `irq` is DONE ∧ IRQ_EN: completion raises it exactly when IRQ_EN is 1; writing 1 to STATUS.DONE, issuing the
next command and reset lower it; clearing IRQ_EN masks it without clearing DONE, and setting IRQ_EN while DONE = 1
raises it at once. No other step raises it. -/
def Obligations.IrqFollowsDoneAndEnable : Prop :=
  (∀ (s : State) (v w : Word), s.irq = (s.done && s.irqEn) ∧
    (s.eng = .busy w → ∃ t, s.engineTurn = .next t ∧ t.done = true ∧ t.irq = s.irqEn) ∧
    (v.getLsbD 1 = true → ∃ t, s.hostWrite (Config.pBase + 0x008) 4 v = .next t ∧ t.irq = false) ∧
    (s.eng = .idle → ∃ t, s.hostWrite (Config.pBase + 0x00C) 4 v = .next t ∧ t.irq = false) ∧
    s.takeReset.irq = false ∧
    (s.eng = .idle → v.getLsbD 3 = false → ∃ t, s.hostWrite (Config.pBase + 0x004) 4 v = .next t ∧
      t.done = s.done ∧ t.irq = (s.done && v.getLsbD 1))) ∧
  ∀ s t : State, step s = .next t → s.irq = false → t.irq = true →
    (∃ w, s.eng = .busy w ∧ t.eng = .idle ∧ t.done = true) ∨
    (s.done = true ∧ ∃ v rest, s.inputs = .write (Config.pBase + 0x004) 4 v :: rest ∧ v.getLsbD 1 = true)

/-! ### Busy rules and reset (70_reset_and_hazards.md) -/

/-- R250: while busy, a write to a listed register or buffer word that is not read-only changes nothing but HAZ, unless
it is a STATUS write or a soft reset. That the refused write is acknowledged is the model's choice (notes/assumptions
13). -/
def Obligations.BusyWritesAreIgnored : Prop :=
  ∀ (s : State) (w v : Word) (o : Nat), s.eng = .busy w → o % 4 = 0 →
    (o = 0x004 ∧ v.getLsbD 3 = false ∨ 0x00C ≤ o ∧ o ≤ 0x014 ∨ 0x020 ≤ o ∧ o ≤ 0x038 ∨ 0x070 ≤ o ∧ o ≤ 0x078 ∨
      0x080 ≤ o ∧ o ≤ 0x09C ∨ 0x100 ≤ o ∧ o ≤ 0x18C ∨ 0x200 ≤ o ∧ o ≤ 0x274) →
    s.hostWrite (Config.pBase + o) 4 v = .next { s with haz := true, resp := .ack }

/-- R251: while busy, reads of ID, CTRL and STATUS return their current values with no side effect; a read of anything
else that is listed returns some word, sets HAZ, and changes nothing of the block besides. That a read of CMD or
KEY0-KEY3 while busy falls under R251 and not under R64 is the model's reading (notes/assumptions 11); `resp` and
`draws` are the model's own fields (notes/assumptions 10 and 12). -/
def Obligations.BusyReadsAreFree : Prop :=
  ∀ (s : State) (w : Word) (o : Nat), s.eng = .busy w → o % 4 = 0 →
    (o = 0x000 → s.hostRead (Config.pBase + o) 4 = .next { s with resp := .data 0x46434331 }) ∧
    (o = 0x004 → s.hostRead (Config.pBase + o) 4 = .next { s with resp := .data s.ctrlWord }) ∧
    (o = 0x008 → s.hostRead (Config.pBase + o) 4 = .next { s with resp := .data s.statusWord }) ∧
    ((0x00C ≤ o ∧ o ≤ 0x014 ∨ 0x020 ≤ o ∧ o ≤ 0x038 ∨ 0x040 ≤ o ∧ o ≤ 0x060 ∨ 0x070 ≤ o ∧ o ≤ 0x078 ∨
        0x080 ≤ o ∧ o ≤ 0x09C ∨ 0x100 ≤ o ∧ o ≤ 0x18C ∨ 0x200 ≤ o ∧ o ≤ 0x274) →
      ∃ x n, s.hostRead (Config.pBase + o) 4 = .next { s with haz := true, resp := .data x, draws := n })

/-- R24 and R252, over every step: HAZ rises only by a host access while a command is pending, and falls only by a
STATUS write with bit 2 = 1 or a reset. -/
def Obligations.HazIsStickyAndOnlyForBusyAccesses : Prop :=
  ∀ s t : State, step s = .next t →
    (s.haz = false → t.haz = true → s.busy = true ∧
      ∃ addr rest, s.inputs = .read addr 4 :: rest ∨ ∃ v, s.inputs = .write addr 4 v :: rest) ∧
    (s.haz = true → t.haz = false → ∃ e rest, s.inputs = e :: rest ∧
      (e = .rst ∨ e.isSoftReset = true ∨ ∃ v, e = .write (Config.pBase + 0x008) 4 v ∧ v.getLsbD 2 = true))

/-- R43 and R37, over every step: KEY_VALID rises only when the engine completes KEY_LOAD, and falls only when it
completes KEY_CLEAR or a reset comes; KEY changes only at those steps. -/
def Obligations.KeyChangesOnlyByKeyCommandsAndReset : Prop :=
  ∀ s t : State, step s = .next t → (t.keyValid ≠ s.keyValid ∨ t.key ≠ s.key) →
    (∃ w, s.eng = .busy w ∧ (s.inputs = [] ∨ ∃ rest, s.inputs = .engine :: rest) ∧
      (decode w = .instr .keyLoad ∧ t.keyValid = true ∨ decode w = .instr .keyClear ∧ t.keyValid = false ∧ t.key = 0)) ∨
    (∃ e rest, s.inputs = e :: rest ∧ (e = .rst ∨ e.isSoftReset = true) ∧ t.keyValid = false ∧ t.key = 0)

/-- R69, R250 and R242, over every step: a buffer byte changes only at a reset, by an idle host write to its own word, or
by the engine's completion of ENCODE inside FBUF[0..143), or of DECODE or CTR_PBUF inside PBUF[0..120); and every byte
that changes lies in a buffer, unless a reset drew it anew. -/
def Obligations.BufferBytesChangeOnlyAsRuled : Prop :=
  ∀ (s t : State) (a : Nat), step s = .next t → t.byteAt a ≠ s.byteAt a →
    (∃ e rest, s.inputs = e :: rest ∧ (e = .rst ∨ e.isSoftReset = true)) ∨
    (s.eng = .idle ∧ ∃ o v rest, s.inputs = .write (Config.pBase + o) 4 v :: rest ∧ o % 4 = 0 ∧ o ≤ a ∧ a < o + 4 ∧
      (0x100 ≤ a ∧ a < 0x190 ∨ 0x200 ≤ a ∧ a < 0x278)) ∨
    (∃ w, s.eng = .busy w ∧ (s.inputs = [] ∨ ∃ rest, s.inputs = .engine :: rest) ∧
      (decode w = .instr .encode ∧ 0x100 ≤ a ∧ a < 0x18F ∨
      (decode w = .instr .decode ∨ decode w = .instr .ctrPbuf) ∧ 0x200 ≤ a ∧ a < 0x278))

/-- R73 with R8 and R192: the latency of a command does not matter. While a command is pending, host accesses other than
a reset leave every operand, buffer byte and the latched word as they were at the CMD write; and completing after them
gives the state that completing at once gives, but for the bus's answer, HAZ, CTR_WRAP (which the host may clear) and
the free reads drawn. -/
def Obligations.LatencyDoesNotMatter : Prop :=
  ∀ (s t : State) (w : Word), s.eng = .busy w → (∀ e ∈ s.inputs, e.isPlainAccess = true) →
    Host.Core.run Sys2Proof.core s.inputs.length s = .next t →
    t = { s with inputs := [], resp := t.resp, haz := t.haz, done := t.done, ctrWrap := t.ctrWrap, draws := t.draws } ∧
    ∃ u v, step t = .next u ∧ step { s with inputs := [] } = .next v ∧
      u = { v with resp := u.resp, haz := u.haz, ctrWrap := u.ctrWrap, draws := u.draws }

/-- R192, fairness (that the engine's turn comes when no event is left is the model's choice: notes/assumptions 2):
unless a reset comes or the host faults first, an issued command completes: within one step more than there are events
left, the engine is idle with DONE set. -/
def Obligations.IssuedCommandCompletes : Prop :=
  ∀ (s : State) (w : Word), s.eng = .busy w → (∀ e ∈ s.inputs, e ≠ .rst ∧ e.isSoftReset = false) →
    ∃ k, k ≤ s.inputs.length + 1 ∧
      ((∃ t, Host.Core.run Sys2Proof.core k s = .next t ∧ t.eng = .idle ∧ t.done = true) ∨
       (∃ addr, Host.Core.run Sys2Proof.core k s = .fault (.busError addr)))

/-- R240 and the vector RST-1: what the registers read after reset. CFG_MAGIC, CFG_VERSION and CFG_PTYPE read the open
parameters. -/
def Obligations.ResetVector : Prop :=
  State.reset.regValue .id = 0x46434331 ∧ State.reset.regValue .ctrl = 0x00000001 ∧
  State.reset.regValue .status = 0x00000000 ∧ State.reset.regValue .crcVal = 0x0000FFFF ∧
  State.reset.regValue .cfgMagic = Config.pMagic.setWidth 32 ∧
  State.reset.regValue .cfgVersion = Config.pVersion.setWidth 32 ∧ State.reset.regValue .cfgPtype = Config.pPtypes ∧
  (∀ r ∈ [Reg.cmd, .flen, .txType, .txSrc, .txDst, .txCtr, .txNonceHi, .txNonceLo, .txPlen, .rxVer, .rxType, .rxSrc,
      .rxDst, .rxCtr, .rxNonceHi, .rxNonceLo, .rxPlen, .rxCrc, .key0, .key1, .key2, .key3, .blk0, .blk1, .blk2, .blk3],
    State.reset.regValue r = 0) ∧
  State.reset.key = 0 ∧ State.reset.keyValid = false ∧ State.reset.eng = .idle ∧ State.reset.irq = false

/-- R240, R241 and R242: `rst` and a CTRL write with bit 3 = 1, at any time and busy or not, leave the reset state:
every register and the key as after power-on, a pending command discarded, the other bits of the write not applied, and
every buffer byte a free value that no earlier content decides. The fields of the model's own go on (notes/assumptions
9, 12). -/
def Obligations.ResetAtAnyTime : Prop :=
  ∀ (s : State) (v : Word) (rest : List Event), v.getLsbD 3 = true →
    step { s with inputs := .rst :: rest } = .next { State.reset with
      inputs := rest, resp := s.resp, resets := s.resets + 1, draws := s.draws } ∧
    step { s with inputs := .write (Config.pBase + 0x004) 4 v :: rest } = .next { State.reset with
      inputs := rest, resp := .ack, resets := s.resets + 1, draws := s.draws } ∧
    (∀ (s' t t' : State) (a : Nat), s'.resets = s.resets →
      step { s with inputs := .rst :: rest } = .next t → step { s' with inputs := .rst :: rest } = .next t' →
      t.byteAt a = t'.byteAt a)

/-! ### The invariant -/

/-- The state after reset meets the invariant. -/
def Obligations.ResetMeetsInvariant : Prop := State.reset.Inv

/-- Every step keeps the invariant: the buffer memory stays canonical and inside the buffers (R69), DONE stays 0 while a
command is pending (R191, R192), KEY stays erased while KEY_VALID is 0 (R43, R171), RX_PLEN stays at most 120 (R133). -/
def Obligations.StepKeepsInvariant : Prop :=
  ∀ s t : State, s.Inv → step s = .next t → t.Inv
end

