-- ==== Sys2Proof/Laws/Bytes.lean ====
section
/-! SUPPORT. Byte strings: lengths, the value of a big-endian string, and exclusive or twice. -/

namespace Sys2Proof.Machine

@[simp] theorem be_length (n v : Nat) : (be n v).length = n := by
  induction n with
  | zero => rfl
  | succ n ih => simp [be, ih]

@[simp] theorem bytesOfWord_length (w : Word) : (bytesOfWord w).length = 4 := be_length 4 _

@[simp] theorem bytesOfHalf_length (h : Half) : (bytesOfHalf h).length = 2 := be_length 2 _

@[simp] theorem xorBytes_length (xs ys : List Byte) : (xorBytes xs ys).length = min xs.length ys.length := by
  simp [xorBytes]

/-- The four bytes of a word are its bits 31:24, 23:16, 15:8 and 7:0. -/
theorem bytesOfWord_eq (w : Word) :
    bytesOfWord w = [w.extractLsb' 24 8, w.extractLsb' 16 8, w.extractLsb' 8 8, w.extractLsb' 0 8] := by
  simp only [bytesOfWord, be, List.cons.injEq, and_true]
  refine ⟨?_, ?_, ?_, ?_⟩ <;>
    (apply BitVec.eq_of_toNat_eq
     simp [BitVec.extractLsb'_toNat, Nat.shiftRight_eq_div_pow])

/-- The two bytes of a 16-bit number are its bits 15:8 and 7:0. -/
theorem bytesOfHalf_eq (h : Half) : bytesOfHalf h = [h.extractLsb' 8 8, h.extractLsb' 0 8] := by
  simp only [bytesOfHalf, be, List.cons.injEq, and_true]
  refine ⟨?_, ?_⟩ <;>
    (apply BitVec.eq_of_toNat_eq
     simp [BitVec.extractLsb'_toNat, Nat.shiftRight_eq_div_pow])

/-- A byte appended below a bit vector. -/
theorem toNat_append_byte {n : Nat} (x : BitVec n) (b : Byte) : (x ++ b).toNat = x.toNat * 256 + b.toNat := by
  rw [BitVec.toNat_append, ← Nat.shiftLeft_add_eq_or_of_lt b.isLt, Nat.shiftLeft_eq]

/-- Four bytes make the word that has them in bits 31:24 down to 7:0. -/
theorem wordOfBytes_four (a b c d : Byte) : wordOfBytes [a, b, c, d] = a ++ b ++ c ++ d := by
  apply BitVec.eq_of_toNat_eq
  have ha := a.isLt; have hb := b.isLt; have hc := c.isLt; have hd := d.isLt
  simp only [wordOfBytes, beval, List.foldl, BitVec.toNat_ofNat, toNat_append_byte]
  omega

/-- Two bytes make the 16-bit number that has them in bits 15:8 and 7:0. -/
theorem halfOfBytes_two (a b : Byte) : halfOfBytes [a, b] = a ++ b := by
  apply BitVec.eq_of_toNat_eq
  have ha := a.isLt; have hb := b.isLt
  simp only [halfOfBytes, beval, List.foldl, BitVec.toNat_ofNat, toNat_append_byte]
  omega

/-- Reading back the bytes of a word gives the word. -/
@[simp] theorem wordOfBytes_bytesOfWord (w : Word) : wordOfBytes (bytesOfWord w) = w := by
  apply BitVec.eq_of_toNat_eq
  have := w.isLt
  simp only [bytesOfWord, be, wordOfBytes, beval, List.foldl, BitVec.toNat_ofNat]
  omega

/-- Reading back the bytes of a 16-bit number gives the number. -/
@[simp] theorem halfOfBytes_bytesOfHalf (h : Half) : halfOfBytes (bytesOfHalf h) = h := by
  apply BitVec.eq_of_toNat_eq
  have := h.isLt
  simp only [bytesOfHalf, be, halfOfBytes, beval, List.foldl, BitVec.toNat_ofNat]
  omega

/-- The word of four bytes splits into them again. -/
theorem bytesOfWord_wordOfBytes (a b c d : Byte) : bytesOfWord (wordOfBytes [a, b, c, d]) = [a, b, c, d] := by
  have ha := a.isLt; have hb := b.isLt; have hc := c.isLt; have hd := d.isLt
  simp only [bytesOfWord, be, wordOfBytes, beval, List.foldl, BitVec.toNat_ofNat, List.cons.injEq, and_true]
  refine ⟨?_, ?_, ?_, ?_⟩ <;>
    (apply BitVec.eq_of_toNat_eq
     simp only [BitVec.toNat_ofNat]
     omega)

/-- Exclusive or with the same string twice gives the first string back. -/
theorem xorBytes_xorBytes (xs ks : List Byte) (h : xs.length ≤ ks.length) :
    xorBytes (xorBytes xs ks) ks = xs := by
  induction xs generalizing ks with
  | nil => simp [xorBytes]
  | cons x xs ih =>
    cases ks with
    | nil => simp at h
    | cons k ks =>
      have := ih ks (by simpa using h)
      simp only [xorBytes, List.zipWith_cons_cons, BitVec.xor_assoc, BitVec.xor_self, BitVec.xor_zero,
        List.cons.injEq, true_and] at this ⊢
      exact this

end Sys2Proof.Machine
end

