-- ==== Sys2Proof/Laws/Memory.lean ====
section
/-! SUPPORT. The buffer memory: read after write, and the canonical form that every memory operation keeps. -/

namespace Sys2Proof.Machine

/-- The offsets of FBUF are 0x100-0x18F and those of PBUF 0x200-0x277. -/
theorem inBuffers_iff (a : Nat) :
    inBuffers a = true ↔ (0x100 ≤ a ∧ a < 0x190) ∨ (0x200 ≤ a ∧ a < 0x278) := by
  simp only [inBuffers, Bool.or_eq_true, Bool.and_eq_true, decide_eq_true_eq]
  simp only [fbufBase, pbufBase, Config.fbufBytes, Config.pbufBytes, Nat.reduceAdd]

/-- A byte written is read back. -/
@[simp] theorem Memory.read_write_same (m : Memory) (a : Nat) (v : Byte) : (m.write a v).read a = some v := by
  induction m with
  | nil => simp [Memory.write, Memory.read]
  | cons c m ih =>
    obtain ⟨b, u⟩ := c
    simp only [Memory.write]
    split
    · simp [Memory.read]
    · split
      · simp [Memory.read]
      · rename_i h
        simp only [Memory.read, if_neg (Ne.symm h)]
        exact ih

/-- A byte written leaves every other address alone. -/
theorem Memory.read_write_ne (m : Memory) {a x : Nat} (v : Byte) (h : x ≠ a) : (m.write a v).read x = m.read x := by
  induction m with
  | nil => simp [Memory.write, Memory.read, Ne.symm h]
  | cons c m ih =>
    obtain ⟨b, u⟩ := c
    simp only [Memory.write]
    split
    · simp [Memory.read, Ne.symm h]
    · split
      · rename_i hab
        subst hab
        simp [Memory.read, Ne.symm h]
      · simp only [Memory.read, ih]

/-- A byte string written leaves every address outside it alone. -/
theorem Memory.read_writeBytes_out (bs : List Byte) (m : Memory) (a x : Nat) (h : x < a ∨ a + bs.length ≤ x) :
    (m.writeBytes a bs).read x = m.read x := by
  induction bs generalizing m a with
  | nil => rfl
  | cons b bs ih =>
    simp only [List.length_cons] at h
    rw [Memory.writeBytes, ih _ _ (by omega), Memory.read_write_ne _ _ (by omega)]

/-- A byte string written is read back, byte by byte. -/
theorem Memory.read_writeBytes_in (bs : List Byte) (m : Memory) (a k : Nat) (h : k < bs.length) :
    (m.writeBytes a bs).read (a + k) = bs[k]? := by
  induction bs generalizing m a k with
  | nil => simp at h
  | cons b bs ih =>
    cases k with
    | zero => rw [Memory.writeBytes, Memory.read_writeBytes_out _ _ _ _ (by omega)]; simp
    | succ k =>
      have := ih (m.write a b) (a + 1) k (by simpa using h)
      rw [Memory.writeBytes, show a + (k + 1) = a + 1 + k by omega, this]
      simp

/-- Writing a byte keeps the canonical form above any bound below its address. -/
theorem Memory.risingFrom_write (m : Memory) (lo a : Nat) (v : Byte) (ha : lo < a) (hb : inBuffers a = true)
    (h : m.risingFrom lo = true) : (m.write a v).risingFrom lo = true := by
  induction m generalizing lo with
  | nil => simp [Memory.write, Memory.risingFrom, ha, hb]
  | cons c m ih =>
    obtain ⟨b, u⟩ := c
    simp only [Memory.risingFrom, Bool.and_eq_true, decide_eq_true_eq] at h
    simp only [Memory.write]
    split
    · simp [Memory.risingFrom, *]
    · split
      · rename_i hab
        subst hab
        simp [Memory.risingFrom, *]
      · simp only [Memory.risingFrom, Bool.and_eq_true, decide_eq_true_eq]
        exact ⟨h.1, ih b (by omega) h.2⟩

/-- Writing a byte inside a buffer keeps the canonical form. -/
theorem Memory.wf_write (m : Memory) (a : Nat) (v : Byte) (hb : inBuffers a = true) (h : m.wf = true) :
    (m.write a v).wf = true := by
  refine Memory.risingFrom_write m 0 a v ?_ hb h
  rw [inBuffers_iff] at hb
  omega

/-- Writing a byte string inside the buffers keeps the canonical form. -/
theorem Memory.wf_writeBytes (bs : List Byte) (m : Memory) (a : Nat)
    (hb : ∀ k, k < bs.length → inBuffers (a + k) = true) (h : m.wf = true) : (m.writeBytes a bs).wf = true := by
  induction bs generalizing m a with
  | nil => exact h
  | cons b bs ih =>
    refine ih _ _ (fun k hk => ?_) (Memory.wf_write _ _ _ (by simpa using hb 0 (by simp)) h)
    have := hb (k + 1) (by simpa using hk)
    rwa [show a + (k + 1) = a + 1 + k by omega] at this

end Sys2Proof.Machine
end

