-- ==== Sys2Proof/Laws/State.lean ====
section
/-! SUPPORT. One lemma per field of State per named update: what the update leaves in that field. Each is true by rfl and
is a simp lemma, so that no proof unfolds a record update. -/

namespace Sys2Proof.Machine

variable (s : State)

@[simp] theorem State.finish_encEn (c : Result) : (s.finish c).encEn = s.encEn := rfl
@[simp] theorem State.finish_irqEn (c : Result) : (s.finish c).irqEn = s.irqEn := rfl
@[simp] theorem State.finish_autoinc (c : Result) : (s.finish c).autoinc = s.autoinc := rfl
@[simp] theorem State.finish_done (c : Result) : (s.finish c).done = true := rfl
@[simp] theorem State.finish_haz (c : Result) : (s.finish c).haz = s.haz := rfl
@[simp] theorem State.finish_ctrWrap (c : Result) : (s.finish c).ctrWrap = s.ctrWrap := rfl
@[simp] theorem State.finish_result (c : Result) : (s.finish c).result = c := rfl
@[simp] theorem State.finish_keyValid (c : Result) : (s.finish c).keyValid = s.keyValid := rfl
@[simp] theorem State.finish_cipher (c : Result) : (s.finish c).cipher = s.cipher := rfl
@[simp] theorem State.finish_eng (c : Result) : (s.finish c).eng = .idle := rfl
@[simp] theorem State.finish_flen (c : Result) : (s.finish c).flen = s.flen := rfl
@[simp] theorem State.finish_crcVal (c : Result) : (s.finish c).crcVal = s.crcVal := rfl
@[simp] theorem State.finish_txType (c : Result) : (s.finish c).txType = s.txType := rfl
@[simp] theorem State.finish_txSrc (c : Result) : (s.finish c).txSrc = s.txSrc := rfl
@[simp] theorem State.finish_txDst (c : Result) : (s.finish c).txDst = s.txDst := rfl
@[simp] theorem State.finish_txCtr (c : Result) : (s.finish c).txCtr = s.txCtr := rfl
@[simp] theorem State.finish_txNonceHi (c : Result) : (s.finish c).txNonceHi = s.txNonceHi := rfl
@[simp] theorem State.finish_txNonceLo (c : Result) : (s.finish c).txNonceLo = s.txNonceLo := rfl
@[simp] theorem State.finish_txPlen (c : Result) : (s.finish c).txPlen = s.txPlen := rfl
@[simp] theorem State.finish_rxVer (c : Result) : (s.finish c).rxVer = s.rxVer := rfl
@[simp] theorem State.finish_rxType (c : Result) : (s.finish c).rxType = s.rxType := rfl
@[simp] theorem State.finish_rxSrc (c : Result) : (s.finish c).rxSrc = s.rxSrc := rfl
@[simp] theorem State.finish_rxDst (c : Result) : (s.finish c).rxDst = s.rxDst := rfl
@[simp] theorem State.finish_rxCtr (c : Result) : (s.finish c).rxCtr = s.rxCtr := rfl
@[simp] theorem State.finish_rxNonceHi (c : Result) : (s.finish c).rxNonceHi = s.rxNonceHi := rfl
@[simp] theorem State.finish_rxNonceLo (c : Result) : (s.finish c).rxNonceLo = s.rxNonceLo := rfl
@[simp] theorem State.finish_rxPlen (c : Result) : (s.finish c).rxPlen = s.rxPlen := rfl
@[simp] theorem State.finish_rxCrc (c : Result) : (s.finish c).rxCrc = s.rxCrc := rfl
@[simp] theorem State.finish_cfgMagic (c : Result) : (s.finish c).cfgMagic = s.cfgMagic := rfl
@[simp] theorem State.finish_cfgVersion (c : Result) : (s.finish c).cfgVersion = s.cfgVersion := rfl
@[simp] theorem State.finish_cfgPtype (c : Result) : (s.finish c).cfgPtype = s.cfgPtype := rfl
@[simp] theorem State.finish_key0 (c : Result) : (s.finish c).key0 = s.key0 := rfl
@[simp] theorem State.finish_key1 (c : Result) : (s.finish c).key1 = s.key1 := rfl
@[simp] theorem State.finish_key2 (c : Result) : (s.finish c).key2 = s.key2 := rfl
@[simp] theorem State.finish_key3 (c : Result) : (s.finish c).key3 = s.key3 := rfl
@[simp] theorem State.finish_blk0 (c : Result) : (s.finish c).blk0 = s.blk0 := rfl
@[simp] theorem State.finish_blk1 (c : Result) : (s.finish c).blk1 = s.blk1 := rfl
@[simp] theorem State.finish_blk2 (c : Result) : (s.finish c).blk2 = s.blk2 := rfl
@[simp] theorem State.finish_blk3 (c : Result) : (s.finish c).blk3 = s.blk3 := rfl
@[simp] theorem State.finish_key (c : Result) : (s.finish c).key = s.key := rfl
@[simp] theorem State.finish_mem (c : Result) : (s.finish c).mem = s.mem := rfl
@[simp] theorem State.finish_inputs (c : Result) : (s.finish c).inputs = s.inputs := rfl
@[simp] theorem State.finish_resp (c : Result) : (s.finish c).resp = s.resp := rfl
@[simp] theorem State.finish_resets (c : Result) : (s.finish c).resets = s.resets := rfl
@[simp] theorem State.finish_draws (c : Result) : (s.finish c).draws = s.draws := rfl

@[simp] theorem State.issue_encEn (w : Word) : (s.issue w).encEn = s.encEn := rfl
@[simp] theorem State.issue_irqEn (w : Word) : (s.issue w).irqEn = s.irqEn := rfl
@[simp] theorem State.issue_autoinc (w : Word) : (s.issue w).autoinc = s.autoinc := rfl
@[simp] theorem State.issue_done (w : Word) : (s.issue w).done = false := rfl
@[simp] theorem State.issue_haz (w : Word) : (s.issue w).haz = s.haz := rfl
@[simp] theorem State.issue_ctrWrap (w : Word) : (s.issue w).ctrWrap = s.ctrWrap := rfl
@[simp] theorem State.issue_result (w : Word) : (s.issue w).result = s.result := rfl
@[simp] theorem State.issue_keyValid (w : Word) : (s.issue w).keyValid = s.keyValid := rfl
@[simp] theorem State.issue_cipher (w : Word) : (s.issue w).cipher = s.cipher := rfl
@[simp] theorem State.issue_eng (w : Word) : (s.issue w).eng = .busy w := rfl
@[simp] theorem State.issue_flen (w : Word) : (s.issue w).flen = s.flen := rfl
@[simp] theorem State.issue_crcVal (w : Word) : (s.issue w).crcVal = s.crcVal := rfl
@[simp] theorem State.issue_txType (w : Word) : (s.issue w).txType = s.txType := rfl
@[simp] theorem State.issue_txSrc (w : Word) : (s.issue w).txSrc = s.txSrc := rfl
@[simp] theorem State.issue_txDst (w : Word) : (s.issue w).txDst = s.txDst := rfl
@[simp] theorem State.issue_txCtr (w : Word) : (s.issue w).txCtr = s.txCtr := rfl
@[simp] theorem State.issue_txNonceHi (w : Word) : (s.issue w).txNonceHi = s.txNonceHi := rfl
@[simp] theorem State.issue_txNonceLo (w : Word) : (s.issue w).txNonceLo = s.txNonceLo := rfl
@[simp] theorem State.issue_txPlen (w : Word) : (s.issue w).txPlen = s.txPlen := rfl
@[simp] theorem State.issue_rxVer (w : Word) : (s.issue w).rxVer = s.rxVer := rfl
@[simp] theorem State.issue_rxType (w : Word) : (s.issue w).rxType = s.rxType := rfl
@[simp] theorem State.issue_rxSrc (w : Word) : (s.issue w).rxSrc = s.rxSrc := rfl
@[simp] theorem State.issue_rxDst (w : Word) : (s.issue w).rxDst = s.rxDst := rfl
@[simp] theorem State.issue_rxCtr (w : Word) : (s.issue w).rxCtr = s.rxCtr := rfl
@[simp] theorem State.issue_rxNonceHi (w : Word) : (s.issue w).rxNonceHi = s.rxNonceHi := rfl
@[simp] theorem State.issue_rxNonceLo (w : Word) : (s.issue w).rxNonceLo = s.rxNonceLo := rfl
@[simp] theorem State.issue_rxPlen (w : Word) : (s.issue w).rxPlen = s.rxPlen := rfl
@[simp] theorem State.issue_rxCrc (w : Word) : (s.issue w).rxCrc = s.rxCrc := rfl
@[simp] theorem State.issue_cfgMagic (w : Word) : (s.issue w).cfgMagic = s.cfgMagic := rfl
@[simp] theorem State.issue_cfgVersion (w : Word) : (s.issue w).cfgVersion = s.cfgVersion := rfl
@[simp] theorem State.issue_cfgPtype (w : Word) : (s.issue w).cfgPtype = s.cfgPtype := rfl
@[simp] theorem State.issue_key0 (w : Word) : (s.issue w).key0 = s.key0 := rfl
@[simp] theorem State.issue_key1 (w : Word) : (s.issue w).key1 = s.key1 := rfl
@[simp] theorem State.issue_key2 (w : Word) : (s.issue w).key2 = s.key2 := rfl
@[simp] theorem State.issue_key3 (w : Word) : (s.issue w).key3 = s.key3 := rfl
@[simp] theorem State.issue_blk0 (w : Word) : (s.issue w).blk0 = s.blk0 := rfl
@[simp] theorem State.issue_blk1 (w : Word) : (s.issue w).blk1 = s.blk1 := rfl
@[simp] theorem State.issue_blk2 (w : Word) : (s.issue w).blk2 = s.blk2 := rfl
@[simp] theorem State.issue_blk3 (w : Word) : (s.issue w).blk3 = s.blk3 := rfl
@[simp] theorem State.issue_key (w : Word) : (s.issue w).key = s.key := rfl
@[simp] theorem State.issue_mem (w : Word) : (s.issue w).mem = s.mem := rfl
@[simp] theorem State.issue_inputs (w : Word) : (s.issue w).inputs = s.inputs := rfl
@[simp] theorem State.issue_resp (w : Word) : (s.issue w).resp = s.resp := rfl
@[simp] theorem State.issue_resets (w : Word) : (s.issue w).resets = s.resets := rfl
@[simp] theorem State.issue_draws (w : Word) : (s.issue w).draws = s.draws := rfl

@[simp] theorem State.store_encEn (a : Nat) (bs : List Byte) : (s.store a bs).encEn = s.encEn := rfl
@[simp] theorem State.store_irqEn (a : Nat) (bs : List Byte) : (s.store a bs).irqEn = s.irqEn := rfl
@[simp] theorem State.store_autoinc (a : Nat) (bs : List Byte) : (s.store a bs).autoinc = s.autoinc := rfl
@[simp] theorem State.store_done (a : Nat) (bs : List Byte) : (s.store a bs).done = s.done := rfl
@[simp] theorem State.store_haz (a : Nat) (bs : List Byte) : (s.store a bs).haz = s.haz := rfl
@[simp] theorem State.store_ctrWrap (a : Nat) (bs : List Byte) : (s.store a bs).ctrWrap = s.ctrWrap := rfl
@[simp] theorem State.store_result (a : Nat) (bs : List Byte) : (s.store a bs).result = s.result := rfl
@[simp] theorem State.store_keyValid (a : Nat) (bs : List Byte) : (s.store a bs).keyValid = s.keyValid := rfl
@[simp] theorem State.store_cipher (a : Nat) (bs : List Byte) : (s.store a bs).cipher = s.cipher := rfl
@[simp] theorem State.store_eng (a : Nat) (bs : List Byte) : (s.store a bs).eng = s.eng := rfl
@[simp] theorem State.store_flen (a : Nat) (bs : List Byte) : (s.store a bs).flen = s.flen := rfl
@[simp] theorem State.store_crcVal (a : Nat) (bs : List Byte) : (s.store a bs).crcVal = s.crcVal := rfl
@[simp] theorem State.store_txType (a : Nat) (bs : List Byte) : (s.store a bs).txType = s.txType := rfl
@[simp] theorem State.store_txSrc (a : Nat) (bs : List Byte) : (s.store a bs).txSrc = s.txSrc := rfl
@[simp] theorem State.store_txDst (a : Nat) (bs : List Byte) : (s.store a bs).txDst = s.txDst := rfl
@[simp] theorem State.store_txCtr (a : Nat) (bs : List Byte) : (s.store a bs).txCtr = s.txCtr := rfl
@[simp] theorem State.store_txNonceHi (a : Nat) (bs : List Byte) : (s.store a bs).txNonceHi = s.txNonceHi := rfl
@[simp] theorem State.store_txNonceLo (a : Nat) (bs : List Byte) : (s.store a bs).txNonceLo = s.txNonceLo := rfl
@[simp] theorem State.store_txPlen (a : Nat) (bs : List Byte) : (s.store a bs).txPlen = s.txPlen := rfl
@[simp] theorem State.store_rxVer (a : Nat) (bs : List Byte) : (s.store a bs).rxVer = s.rxVer := rfl
@[simp] theorem State.store_rxType (a : Nat) (bs : List Byte) : (s.store a bs).rxType = s.rxType := rfl
@[simp] theorem State.store_rxSrc (a : Nat) (bs : List Byte) : (s.store a bs).rxSrc = s.rxSrc := rfl
@[simp] theorem State.store_rxDst (a : Nat) (bs : List Byte) : (s.store a bs).rxDst = s.rxDst := rfl
@[simp] theorem State.store_rxCtr (a : Nat) (bs : List Byte) : (s.store a bs).rxCtr = s.rxCtr := rfl
@[simp] theorem State.store_rxNonceHi (a : Nat) (bs : List Byte) : (s.store a bs).rxNonceHi = s.rxNonceHi := rfl
@[simp] theorem State.store_rxNonceLo (a : Nat) (bs : List Byte) : (s.store a bs).rxNonceLo = s.rxNonceLo := rfl
@[simp] theorem State.store_rxPlen (a : Nat) (bs : List Byte) : (s.store a bs).rxPlen = s.rxPlen := rfl
@[simp] theorem State.store_rxCrc (a : Nat) (bs : List Byte) : (s.store a bs).rxCrc = s.rxCrc := rfl
@[simp] theorem State.store_cfgMagic (a : Nat) (bs : List Byte) : (s.store a bs).cfgMagic = s.cfgMagic := rfl
@[simp] theorem State.store_cfgVersion (a : Nat) (bs : List Byte) : (s.store a bs).cfgVersion = s.cfgVersion := rfl
@[simp] theorem State.store_cfgPtype (a : Nat) (bs : List Byte) : (s.store a bs).cfgPtype = s.cfgPtype := rfl
@[simp] theorem State.store_key0 (a : Nat) (bs : List Byte) : (s.store a bs).key0 = s.key0 := rfl
@[simp] theorem State.store_key1 (a : Nat) (bs : List Byte) : (s.store a bs).key1 = s.key1 := rfl
@[simp] theorem State.store_key2 (a : Nat) (bs : List Byte) : (s.store a bs).key2 = s.key2 := rfl
@[simp] theorem State.store_key3 (a : Nat) (bs : List Byte) : (s.store a bs).key3 = s.key3 := rfl
@[simp] theorem State.store_blk0 (a : Nat) (bs : List Byte) : (s.store a bs).blk0 = s.blk0 := rfl
@[simp] theorem State.store_blk1 (a : Nat) (bs : List Byte) : (s.store a bs).blk1 = s.blk1 := rfl
@[simp] theorem State.store_blk2 (a : Nat) (bs : List Byte) : (s.store a bs).blk2 = s.blk2 := rfl
@[simp] theorem State.store_blk3 (a : Nat) (bs : List Byte) : (s.store a bs).blk3 = s.blk3 := rfl
@[simp] theorem State.store_key (a : Nat) (bs : List Byte) : (s.store a bs).key = s.key := rfl
@[simp] theorem State.store_mem (a : Nat) (bs : List Byte) : (s.store a bs).mem = s.mem.writeBytes a bs := rfl
@[simp] theorem State.store_inputs (a : Nat) (bs : List Byte) : (s.store a bs).inputs = s.inputs := rfl
@[simp] theorem State.store_resp (a : Nat) (bs : List Byte) : (s.store a bs).resp = s.resp := rfl
@[simp] theorem State.store_resets (a : Nat) (bs : List Byte) : (s.store a bs).resets = s.resets := rfl
@[simp] theorem State.store_draws (a : Nat) (bs : List Byte) : (s.store a bs).draws = s.draws := rfl

@[simp] theorem State.flagHazard_encEn : s.flagHazard.encEn = s.encEn := rfl
@[simp] theorem State.flagHazard_irqEn : s.flagHazard.irqEn = s.irqEn := rfl
@[simp] theorem State.flagHazard_autoinc : s.flagHazard.autoinc = s.autoinc := rfl
@[simp] theorem State.flagHazard_done : s.flagHazard.done = s.done := rfl
@[simp] theorem State.flagHazard_haz : s.flagHazard.haz = true := rfl
@[simp] theorem State.flagHazard_ctrWrap : s.flagHazard.ctrWrap = s.ctrWrap := rfl
@[simp] theorem State.flagHazard_result : s.flagHazard.result = s.result := rfl
@[simp] theorem State.flagHazard_keyValid : s.flagHazard.keyValid = s.keyValid := rfl
@[simp] theorem State.flagHazard_cipher : s.flagHazard.cipher = s.cipher := rfl
@[simp] theorem State.flagHazard_eng : s.flagHazard.eng = s.eng := rfl
@[simp] theorem State.flagHazard_flen : s.flagHazard.flen = s.flen := rfl
@[simp] theorem State.flagHazard_crcVal : s.flagHazard.crcVal = s.crcVal := rfl
@[simp] theorem State.flagHazard_txType : s.flagHazard.txType = s.txType := rfl
@[simp] theorem State.flagHazard_txSrc : s.flagHazard.txSrc = s.txSrc := rfl
@[simp] theorem State.flagHazard_txDst : s.flagHazard.txDst = s.txDst := rfl
@[simp] theorem State.flagHazard_txCtr : s.flagHazard.txCtr = s.txCtr := rfl
@[simp] theorem State.flagHazard_txNonceHi : s.flagHazard.txNonceHi = s.txNonceHi := rfl
@[simp] theorem State.flagHazard_txNonceLo : s.flagHazard.txNonceLo = s.txNonceLo := rfl
@[simp] theorem State.flagHazard_txPlen : s.flagHazard.txPlen = s.txPlen := rfl
@[simp] theorem State.flagHazard_rxVer : s.flagHazard.rxVer = s.rxVer := rfl
@[simp] theorem State.flagHazard_rxType : s.flagHazard.rxType = s.rxType := rfl
@[simp] theorem State.flagHazard_rxSrc : s.flagHazard.rxSrc = s.rxSrc := rfl
@[simp] theorem State.flagHazard_rxDst : s.flagHazard.rxDst = s.rxDst := rfl
@[simp] theorem State.flagHazard_rxCtr : s.flagHazard.rxCtr = s.rxCtr := rfl
@[simp] theorem State.flagHazard_rxNonceHi : s.flagHazard.rxNonceHi = s.rxNonceHi := rfl
@[simp] theorem State.flagHazard_rxNonceLo : s.flagHazard.rxNonceLo = s.rxNonceLo := rfl
@[simp] theorem State.flagHazard_rxPlen : s.flagHazard.rxPlen = s.rxPlen := rfl
@[simp] theorem State.flagHazard_rxCrc : s.flagHazard.rxCrc = s.rxCrc := rfl
@[simp] theorem State.flagHazard_cfgMagic : s.flagHazard.cfgMagic = s.cfgMagic := rfl
@[simp] theorem State.flagHazard_cfgVersion : s.flagHazard.cfgVersion = s.cfgVersion := rfl
@[simp] theorem State.flagHazard_cfgPtype : s.flagHazard.cfgPtype = s.cfgPtype := rfl
@[simp] theorem State.flagHazard_key0 : s.flagHazard.key0 = s.key0 := rfl
@[simp] theorem State.flagHazard_key1 : s.flagHazard.key1 = s.key1 := rfl
@[simp] theorem State.flagHazard_key2 : s.flagHazard.key2 = s.key2 := rfl
@[simp] theorem State.flagHazard_key3 : s.flagHazard.key3 = s.key3 := rfl
@[simp] theorem State.flagHazard_blk0 : s.flagHazard.blk0 = s.blk0 := rfl
@[simp] theorem State.flagHazard_blk1 : s.flagHazard.blk1 = s.blk1 := rfl
@[simp] theorem State.flagHazard_blk2 : s.flagHazard.blk2 = s.blk2 := rfl
@[simp] theorem State.flagHazard_blk3 : s.flagHazard.blk3 = s.blk3 := rfl
@[simp] theorem State.flagHazard_key : s.flagHazard.key = s.key := rfl
@[simp] theorem State.flagHazard_mem : s.flagHazard.mem = s.mem := rfl
@[simp] theorem State.flagHazard_inputs : s.flagHazard.inputs = s.inputs := rfl
@[simp] theorem State.flagHazard_resp : s.flagHazard.resp = s.resp := rfl
@[simp] theorem State.flagHazard_resets : s.flagHazard.resets = s.resets := rfl
@[simp] theorem State.flagHazard_draws : s.flagHazard.draws = s.draws := rfl

@[simp] theorem State.answer_encEn (r : Response) : (s.answer r).encEn = s.encEn := rfl
@[simp] theorem State.answer_irqEn (r : Response) : (s.answer r).irqEn = s.irqEn := rfl
@[simp] theorem State.answer_autoinc (r : Response) : (s.answer r).autoinc = s.autoinc := rfl
@[simp] theorem State.answer_done (r : Response) : (s.answer r).done = s.done := rfl
@[simp] theorem State.answer_haz (r : Response) : (s.answer r).haz = s.haz := rfl
@[simp] theorem State.answer_ctrWrap (r : Response) : (s.answer r).ctrWrap = s.ctrWrap := rfl
@[simp] theorem State.answer_result (r : Response) : (s.answer r).result = s.result := rfl
@[simp] theorem State.answer_keyValid (r : Response) : (s.answer r).keyValid = s.keyValid := rfl
@[simp] theorem State.answer_cipher (r : Response) : (s.answer r).cipher = s.cipher := rfl
@[simp] theorem State.answer_eng (r : Response) : (s.answer r).eng = s.eng := rfl
@[simp] theorem State.answer_flen (r : Response) : (s.answer r).flen = s.flen := rfl
@[simp] theorem State.answer_crcVal (r : Response) : (s.answer r).crcVal = s.crcVal := rfl
@[simp] theorem State.answer_txType (r : Response) : (s.answer r).txType = s.txType := rfl
@[simp] theorem State.answer_txSrc (r : Response) : (s.answer r).txSrc = s.txSrc := rfl
@[simp] theorem State.answer_txDst (r : Response) : (s.answer r).txDst = s.txDst := rfl
@[simp] theorem State.answer_txCtr (r : Response) : (s.answer r).txCtr = s.txCtr := rfl
@[simp] theorem State.answer_txNonceHi (r : Response) : (s.answer r).txNonceHi = s.txNonceHi := rfl
@[simp] theorem State.answer_txNonceLo (r : Response) : (s.answer r).txNonceLo = s.txNonceLo := rfl
@[simp] theorem State.answer_txPlen (r : Response) : (s.answer r).txPlen = s.txPlen := rfl
@[simp] theorem State.answer_rxVer (r : Response) : (s.answer r).rxVer = s.rxVer := rfl
@[simp] theorem State.answer_rxType (r : Response) : (s.answer r).rxType = s.rxType := rfl
@[simp] theorem State.answer_rxSrc (r : Response) : (s.answer r).rxSrc = s.rxSrc := rfl
@[simp] theorem State.answer_rxDst (r : Response) : (s.answer r).rxDst = s.rxDst := rfl
@[simp] theorem State.answer_rxCtr (r : Response) : (s.answer r).rxCtr = s.rxCtr := rfl
@[simp] theorem State.answer_rxNonceHi (r : Response) : (s.answer r).rxNonceHi = s.rxNonceHi := rfl
@[simp] theorem State.answer_rxNonceLo (r : Response) : (s.answer r).rxNonceLo = s.rxNonceLo := rfl
@[simp] theorem State.answer_rxPlen (r : Response) : (s.answer r).rxPlen = s.rxPlen := rfl
@[simp] theorem State.answer_rxCrc (r : Response) : (s.answer r).rxCrc = s.rxCrc := rfl
@[simp] theorem State.answer_cfgMagic (r : Response) : (s.answer r).cfgMagic = s.cfgMagic := rfl
@[simp] theorem State.answer_cfgVersion (r : Response) : (s.answer r).cfgVersion = s.cfgVersion := rfl
@[simp] theorem State.answer_cfgPtype (r : Response) : (s.answer r).cfgPtype = s.cfgPtype := rfl
@[simp] theorem State.answer_key0 (r : Response) : (s.answer r).key0 = s.key0 := rfl
@[simp] theorem State.answer_key1 (r : Response) : (s.answer r).key1 = s.key1 := rfl
@[simp] theorem State.answer_key2 (r : Response) : (s.answer r).key2 = s.key2 := rfl
@[simp] theorem State.answer_key3 (r : Response) : (s.answer r).key3 = s.key3 := rfl
@[simp] theorem State.answer_blk0 (r : Response) : (s.answer r).blk0 = s.blk0 := rfl
@[simp] theorem State.answer_blk1 (r : Response) : (s.answer r).blk1 = s.blk1 := rfl
@[simp] theorem State.answer_blk2 (r : Response) : (s.answer r).blk2 = s.blk2 := rfl
@[simp] theorem State.answer_blk3 (r : Response) : (s.answer r).blk3 = s.blk3 := rfl
@[simp] theorem State.answer_key (r : Response) : (s.answer r).key = s.key := rfl
@[simp] theorem State.answer_mem (r : Response) : (s.answer r).mem = s.mem := rfl
@[simp] theorem State.answer_inputs (r : Response) : (s.answer r).inputs = s.inputs := rfl
@[simp] theorem State.answer_resp (r : Response) : (s.answer r).resp = r := rfl
@[simp] theorem State.answer_resets (r : Response) : (s.answer r).resets = s.resets := rfl
@[simp] theorem State.answer_draws (r : Response) : (s.answer r).draws = s.draws := rfl

@[simp] theorem State.clearW1C_encEn (v : Word) : (s.clearW1C v).encEn = s.encEn := rfl
@[simp] theorem State.clearW1C_irqEn (v : Word) : (s.clearW1C v).irqEn = s.irqEn := rfl
@[simp] theorem State.clearW1C_autoinc (v : Word) : (s.clearW1C v).autoinc = s.autoinc := rfl
@[simp] theorem State.clearW1C_done (v : Word) : (s.clearW1C v).done = (s.done && !v.getLsbD 1) := rfl
@[simp] theorem State.clearW1C_haz (v : Word) : (s.clearW1C v).haz = (s.haz && !v.getLsbD 2) := rfl
@[simp] theorem State.clearW1C_ctrWrap (v : Word) : (s.clearW1C v).ctrWrap = (s.ctrWrap && !v.getLsbD 3) := rfl
@[simp] theorem State.clearW1C_result (v : Word) : (s.clearW1C v).result = s.result := rfl
@[simp] theorem State.clearW1C_keyValid (v : Word) : (s.clearW1C v).keyValid = s.keyValid := rfl
@[simp] theorem State.clearW1C_cipher (v : Word) : (s.clearW1C v).cipher = s.cipher := rfl
@[simp] theorem State.clearW1C_eng (v : Word) : (s.clearW1C v).eng = s.eng := rfl
@[simp] theorem State.clearW1C_flen (v : Word) : (s.clearW1C v).flen = s.flen := rfl
@[simp] theorem State.clearW1C_crcVal (v : Word) : (s.clearW1C v).crcVal = s.crcVal := rfl
@[simp] theorem State.clearW1C_txType (v : Word) : (s.clearW1C v).txType = s.txType := rfl
@[simp] theorem State.clearW1C_txSrc (v : Word) : (s.clearW1C v).txSrc = s.txSrc := rfl
@[simp] theorem State.clearW1C_txDst (v : Word) : (s.clearW1C v).txDst = s.txDst := rfl
@[simp] theorem State.clearW1C_txCtr (v : Word) : (s.clearW1C v).txCtr = s.txCtr := rfl
@[simp] theorem State.clearW1C_txNonceHi (v : Word) : (s.clearW1C v).txNonceHi = s.txNonceHi := rfl
@[simp] theorem State.clearW1C_txNonceLo (v : Word) : (s.clearW1C v).txNonceLo = s.txNonceLo := rfl
@[simp] theorem State.clearW1C_txPlen (v : Word) : (s.clearW1C v).txPlen = s.txPlen := rfl
@[simp] theorem State.clearW1C_rxVer (v : Word) : (s.clearW1C v).rxVer = s.rxVer := rfl
@[simp] theorem State.clearW1C_rxType (v : Word) : (s.clearW1C v).rxType = s.rxType := rfl
@[simp] theorem State.clearW1C_rxSrc (v : Word) : (s.clearW1C v).rxSrc = s.rxSrc := rfl
@[simp] theorem State.clearW1C_rxDst (v : Word) : (s.clearW1C v).rxDst = s.rxDst := rfl
@[simp] theorem State.clearW1C_rxCtr (v : Word) : (s.clearW1C v).rxCtr = s.rxCtr := rfl
@[simp] theorem State.clearW1C_rxNonceHi (v : Word) : (s.clearW1C v).rxNonceHi = s.rxNonceHi := rfl
@[simp] theorem State.clearW1C_rxNonceLo (v : Word) : (s.clearW1C v).rxNonceLo = s.rxNonceLo := rfl
@[simp] theorem State.clearW1C_rxPlen (v : Word) : (s.clearW1C v).rxPlen = s.rxPlen := rfl
@[simp] theorem State.clearW1C_rxCrc (v : Word) : (s.clearW1C v).rxCrc = s.rxCrc := rfl
@[simp] theorem State.clearW1C_cfgMagic (v : Word) : (s.clearW1C v).cfgMagic = s.cfgMagic := rfl
@[simp] theorem State.clearW1C_cfgVersion (v : Word) : (s.clearW1C v).cfgVersion = s.cfgVersion := rfl
@[simp] theorem State.clearW1C_cfgPtype (v : Word) : (s.clearW1C v).cfgPtype = s.cfgPtype := rfl
@[simp] theorem State.clearW1C_key0 (v : Word) : (s.clearW1C v).key0 = s.key0 := rfl
@[simp] theorem State.clearW1C_key1 (v : Word) : (s.clearW1C v).key1 = s.key1 := rfl
@[simp] theorem State.clearW1C_key2 (v : Word) : (s.clearW1C v).key2 = s.key2 := rfl
@[simp] theorem State.clearW1C_key3 (v : Word) : (s.clearW1C v).key3 = s.key3 := rfl
@[simp] theorem State.clearW1C_blk0 (v : Word) : (s.clearW1C v).blk0 = s.blk0 := rfl
@[simp] theorem State.clearW1C_blk1 (v : Word) : (s.clearW1C v).blk1 = s.blk1 := rfl
@[simp] theorem State.clearW1C_blk2 (v : Word) : (s.clearW1C v).blk2 = s.blk2 := rfl
@[simp] theorem State.clearW1C_blk3 (v : Word) : (s.clearW1C v).blk3 = s.blk3 := rfl
@[simp] theorem State.clearW1C_key (v : Word) : (s.clearW1C v).key = s.key := rfl
@[simp] theorem State.clearW1C_mem (v : Word) : (s.clearW1C v).mem = s.mem := rfl
@[simp] theorem State.clearW1C_inputs (v : Word) : (s.clearW1C v).inputs = s.inputs := rfl
@[simp] theorem State.clearW1C_resp (v : Word) : (s.clearW1C v).resp = s.resp := rfl
@[simp] theorem State.clearW1C_resets (v : Word) : (s.clearW1C v).resets = s.resets := rfl
@[simp] theorem State.clearW1C_draws (v : Word) : (s.clearW1C v).draws = s.draws := rfl

@[simp] theorem State.writeCtrl_encEn (v : Word) : (s.writeCtrl v).encEn = v.getLsbD 0 := rfl
@[simp] theorem State.writeCtrl_irqEn (v : Word) : (s.writeCtrl v).irqEn = v.getLsbD 1 := rfl
@[simp] theorem State.writeCtrl_autoinc (v : Word) : (s.writeCtrl v).autoinc = v.getLsbD 2 := rfl
@[simp] theorem State.writeCtrl_done (v : Word) : (s.writeCtrl v).done = s.done := rfl
@[simp] theorem State.writeCtrl_haz (v : Word) : (s.writeCtrl v).haz = s.haz := rfl
@[simp] theorem State.writeCtrl_ctrWrap (v : Word) : (s.writeCtrl v).ctrWrap = s.ctrWrap := rfl
@[simp] theorem State.writeCtrl_result (v : Word) : (s.writeCtrl v).result = s.result := rfl
@[simp] theorem State.writeCtrl_keyValid (v : Word) : (s.writeCtrl v).keyValid = s.keyValid := rfl
@[simp] theorem State.writeCtrl_cipher (v : Word) : (s.writeCtrl v).cipher = s.cipher := rfl
@[simp] theorem State.writeCtrl_eng (v : Word) : (s.writeCtrl v).eng = s.eng := rfl
@[simp] theorem State.writeCtrl_flen (v : Word) : (s.writeCtrl v).flen = s.flen := rfl
@[simp] theorem State.writeCtrl_crcVal (v : Word) : (s.writeCtrl v).crcVal = s.crcVal := rfl
@[simp] theorem State.writeCtrl_txType (v : Word) : (s.writeCtrl v).txType = s.txType := rfl
@[simp] theorem State.writeCtrl_txSrc (v : Word) : (s.writeCtrl v).txSrc = s.txSrc := rfl
@[simp] theorem State.writeCtrl_txDst (v : Word) : (s.writeCtrl v).txDst = s.txDst := rfl
@[simp] theorem State.writeCtrl_txCtr (v : Word) : (s.writeCtrl v).txCtr = s.txCtr := rfl
@[simp] theorem State.writeCtrl_txNonceHi (v : Word) : (s.writeCtrl v).txNonceHi = s.txNonceHi := rfl
@[simp] theorem State.writeCtrl_txNonceLo (v : Word) : (s.writeCtrl v).txNonceLo = s.txNonceLo := rfl
@[simp] theorem State.writeCtrl_txPlen (v : Word) : (s.writeCtrl v).txPlen = s.txPlen := rfl
@[simp] theorem State.writeCtrl_rxVer (v : Word) : (s.writeCtrl v).rxVer = s.rxVer := rfl
@[simp] theorem State.writeCtrl_rxType (v : Word) : (s.writeCtrl v).rxType = s.rxType := rfl
@[simp] theorem State.writeCtrl_rxSrc (v : Word) : (s.writeCtrl v).rxSrc = s.rxSrc := rfl
@[simp] theorem State.writeCtrl_rxDst (v : Word) : (s.writeCtrl v).rxDst = s.rxDst := rfl
@[simp] theorem State.writeCtrl_rxCtr (v : Word) : (s.writeCtrl v).rxCtr = s.rxCtr := rfl
@[simp] theorem State.writeCtrl_rxNonceHi (v : Word) : (s.writeCtrl v).rxNonceHi = s.rxNonceHi := rfl
@[simp] theorem State.writeCtrl_rxNonceLo (v : Word) : (s.writeCtrl v).rxNonceLo = s.rxNonceLo := rfl
@[simp] theorem State.writeCtrl_rxPlen (v : Word) : (s.writeCtrl v).rxPlen = s.rxPlen := rfl
@[simp] theorem State.writeCtrl_rxCrc (v : Word) : (s.writeCtrl v).rxCrc = s.rxCrc := rfl
@[simp] theorem State.writeCtrl_cfgMagic (v : Word) : (s.writeCtrl v).cfgMagic = s.cfgMagic := rfl
@[simp] theorem State.writeCtrl_cfgVersion (v : Word) : (s.writeCtrl v).cfgVersion = s.cfgVersion := rfl
@[simp] theorem State.writeCtrl_cfgPtype (v : Word) : (s.writeCtrl v).cfgPtype = s.cfgPtype := rfl
@[simp] theorem State.writeCtrl_key0 (v : Word) : (s.writeCtrl v).key0 = s.key0 := rfl
@[simp] theorem State.writeCtrl_key1 (v : Word) : (s.writeCtrl v).key1 = s.key1 := rfl
@[simp] theorem State.writeCtrl_key2 (v : Word) : (s.writeCtrl v).key2 = s.key2 := rfl
@[simp] theorem State.writeCtrl_key3 (v : Word) : (s.writeCtrl v).key3 = s.key3 := rfl
@[simp] theorem State.writeCtrl_blk0 (v : Word) : (s.writeCtrl v).blk0 = s.blk0 := rfl
@[simp] theorem State.writeCtrl_blk1 (v : Word) : (s.writeCtrl v).blk1 = s.blk1 := rfl
@[simp] theorem State.writeCtrl_blk2 (v : Word) : (s.writeCtrl v).blk2 = s.blk2 := rfl
@[simp] theorem State.writeCtrl_blk3 (v : Word) : (s.writeCtrl v).blk3 = s.blk3 := rfl
@[simp] theorem State.writeCtrl_key (v : Word) : (s.writeCtrl v).key = s.key := rfl
@[simp] theorem State.writeCtrl_mem (v : Word) : (s.writeCtrl v).mem = s.mem := rfl
@[simp] theorem State.writeCtrl_inputs (v : Word) : (s.writeCtrl v).inputs = s.inputs := rfl
@[simp] theorem State.writeCtrl_resp (v : Word) : (s.writeCtrl v).resp = s.resp := rfl
@[simp] theorem State.writeCtrl_resets (v : Word) : (s.writeCtrl v).resets = s.resets := rfl
@[simp] theorem State.writeCtrl_draws (v : Word) : (s.writeCtrl v).draws = s.draws := rfl

@[simp] theorem State.clearStaging_encEn : s.clearStaging.encEn = s.encEn := rfl
@[simp] theorem State.clearStaging_irqEn : s.clearStaging.irqEn = s.irqEn := rfl
@[simp] theorem State.clearStaging_autoinc : s.clearStaging.autoinc = s.autoinc := rfl
@[simp] theorem State.clearStaging_done : s.clearStaging.done = s.done := rfl
@[simp] theorem State.clearStaging_haz : s.clearStaging.haz = s.haz := rfl
@[simp] theorem State.clearStaging_ctrWrap : s.clearStaging.ctrWrap = s.ctrWrap := rfl
@[simp] theorem State.clearStaging_result : s.clearStaging.result = s.result := rfl
@[simp] theorem State.clearStaging_keyValid : s.clearStaging.keyValid = s.keyValid := rfl
@[simp] theorem State.clearStaging_cipher : s.clearStaging.cipher = s.cipher := rfl
@[simp] theorem State.clearStaging_eng : s.clearStaging.eng = s.eng := rfl
@[simp] theorem State.clearStaging_flen : s.clearStaging.flen = s.flen := rfl
@[simp] theorem State.clearStaging_crcVal : s.clearStaging.crcVal = s.crcVal := rfl
@[simp] theorem State.clearStaging_txType : s.clearStaging.txType = s.txType := rfl
@[simp] theorem State.clearStaging_txSrc : s.clearStaging.txSrc = s.txSrc := rfl
@[simp] theorem State.clearStaging_txDst : s.clearStaging.txDst = s.txDst := rfl
@[simp] theorem State.clearStaging_txCtr : s.clearStaging.txCtr = s.txCtr := rfl
@[simp] theorem State.clearStaging_txNonceHi : s.clearStaging.txNonceHi = s.txNonceHi := rfl
@[simp] theorem State.clearStaging_txNonceLo : s.clearStaging.txNonceLo = s.txNonceLo := rfl
@[simp] theorem State.clearStaging_txPlen : s.clearStaging.txPlen = s.txPlen := rfl
@[simp] theorem State.clearStaging_rxVer : s.clearStaging.rxVer = s.rxVer := rfl
@[simp] theorem State.clearStaging_rxType : s.clearStaging.rxType = s.rxType := rfl
@[simp] theorem State.clearStaging_rxSrc : s.clearStaging.rxSrc = s.rxSrc := rfl
@[simp] theorem State.clearStaging_rxDst : s.clearStaging.rxDst = s.rxDst := rfl
@[simp] theorem State.clearStaging_rxCtr : s.clearStaging.rxCtr = s.rxCtr := rfl
@[simp] theorem State.clearStaging_rxNonceHi : s.clearStaging.rxNonceHi = s.rxNonceHi := rfl
@[simp] theorem State.clearStaging_rxNonceLo : s.clearStaging.rxNonceLo = s.rxNonceLo := rfl
@[simp] theorem State.clearStaging_rxPlen : s.clearStaging.rxPlen = s.rxPlen := rfl
@[simp] theorem State.clearStaging_rxCrc : s.clearStaging.rxCrc = s.rxCrc := rfl
@[simp] theorem State.clearStaging_cfgMagic : s.clearStaging.cfgMagic = s.cfgMagic := rfl
@[simp] theorem State.clearStaging_cfgVersion : s.clearStaging.cfgVersion = s.cfgVersion := rfl
@[simp] theorem State.clearStaging_cfgPtype : s.clearStaging.cfgPtype = s.cfgPtype := rfl
@[simp] theorem State.clearStaging_key0 : s.clearStaging.key0 = 0 := rfl
@[simp] theorem State.clearStaging_key1 : s.clearStaging.key1 = 0 := rfl
@[simp] theorem State.clearStaging_key2 : s.clearStaging.key2 = 0 := rfl
@[simp] theorem State.clearStaging_key3 : s.clearStaging.key3 = 0 := rfl
@[simp] theorem State.clearStaging_blk0 : s.clearStaging.blk0 = s.blk0 := rfl
@[simp] theorem State.clearStaging_blk1 : s.clearStaging.blk1 = s.blk1 := rfl
@[simp] theorem State.clearStaging_blk2 : s.clearStaging.blk2 = s.blk2 := rfl
@[simp] theorem State.clearStaging_blk3 : s.clearStaging.blk3 = s.blk3 := rfl
@[simp] theorem State.clearStaging_key : s.clearStaging.key = s.key := rfl
@[simp] theorem State.clearStaging_mem : s.clearStaging.mem = s.mem := rfl
@[simp] theorem State.clearStaging_inputs : s.clearStaging.inputs = s.inputs := rfl
@[simp] theorem State.clearStaging_resp : s.clearStaging.resp = s.resp := rfl
@[simp] theorem State.clearStaging_resets : s.clearStaging.resets = s.resets := rfl
@[simp] theorem State.clearStaging_draws : s.clearStaging.draws = s.draws := rfl

@[simp] theorem State.takeReset_encEn : s.takeReset.encEn = State.reset.encEn := rfl
@[simp] theorem State.takeReset_irqEn : s.takeReset.irqEn = State.reset.irqEn := rfl
@[simp] theorem State.takeReset_autoinc : s.takeReset.autoinc = State.reset.autoinc := rfl
@[simp] theorem State.takeReset_done : s.takeReset.done = State.reset.done := rfl
@[simp] theorem State.takeReset_haz : s.takeReset.haz = State.reset.haz := rfl
@[simp] theorem State.takeReset_ctrWrap : s.takeReset.ctrWrap = State.reset.ctrWrap := rfl
@[simp] theorem State.takeReset_result : s.takeReset.result = State.reset.result := rfl
@[simp] theorem State.takeReset_keyValid : s.takeReset.keyValid = State.reset.keyValid := rfl
@[simp] theorem State.takeReset_cipher : s.takeReset.cipher = State.reset.cipher := rfl
@[simp] theorem State.takeReset_eng : s.takeReset.eng = State.reset.eng := rfl
@[simp] theorem State.takeReset_flen : s.takeReset.flen = State.reset.flen := rfl
@[simp] theorem State.takeReset_crcVal : s.takeReset.crcVal = State.reset.crcVal := rfl
@[simp] theorem State.takeReset_txType : s.takeReset.txType = State.reset.txType := rfl
@[simp] theorem State.takeReset_txSrc : s.takeReset.txSrc = State.reset.txSrc := rfl
@[simp] theorem State.takeReset_txDst : s.takeReset.txDst = State.reset.txDst := rfl
@[simp] theorem State.takeReset_txCtr : s.takeReset.txCtr = State.reset.txCtr := rfl
@[simp] theorem State.takeReset_txNonceHi : s.takeReset.txNonceHi = State.reset.txNonceHi := rfl
@[simp] theorem State.takeReset_txNonceLo : s.takeReset.txNonceLo = State.reset.txNonceLo := rfl
@[simp] theorem State.takeReset_txPlen : s.takeReset.txPlen = State.reset.txPlen := rfl
@[simp] theorem State.takeReset_rxVer : s.takeReset.rxVer = State.reset.rxVer := rfl
@[simp] theorem State.takeReset_rxType : s.takeReset.rxType = State.reset.rxType := rfl
@[simp] theorem State.takeReset_rxSrc : s.takeReset.rxSrc = State.reset.rxSrc := rfl
@[simp] theorem State.takeReset_rxDst : s.takeReset.rxDst = State.reset.rxDst := rfl
@[simp] theorem State.takeReset_rxCtr : s.takeReset.rxCtr = State.reset.rxCtr := rfl
@[simp] theorem State.takeReset_rxNonceHi : s.takeReset.rxNonceHi = State.reset.rxNonceHi := rfl
@[simp] theorem State.takeReset_rxNonceLo : s.takeReset.rxNonceLo = State.reset.rxNonceLo := rfl
@[simp] theorem State.takeReset_rxPlen : s.takeReset.rxPlen = State.reset.rxPlen := rfl
@[simp] theorem State.takeReset_rxCrc : s.takeReset.rxCrc = State.reset.rxCrc := rfl
@[simp] theorem State.takeReset_cfgMagic : s.takeReset.cfgMagic = State.reset.cfgMagic := rfl
@[simp] theorem State.takeReset_cfgVersion : s.takeReset.cfgVersion = State.reset.cfgVersion := rfl
@[simp] theorem State.takeReset_cfgPtype : s.takeReset.cfgPtype = State.reset.cfgPtype := rfl
@[simp] theorem State.takeReset_key0 : s.takeReset.key0 = State.reset.key0 := rfl
@[simp] theorem State.takeReset_key1 : s.takeReset.key1 = State.reset.key1 := rfl
@[simp] theorem State.takeReset_key2 : s.takeReset.key2 = State.reset.key2 := rfl
@[simp] theorem State.takeReset_key3 : s.takeReset.key3 = State.reset.key3 := rfl
@[simp] theorem State.takeReset_blk0 : s.takeReset.blk0 = State.reset.blk0 := rfl
@[simp] theorem State.takeReset_blk1 : s.takeReset.blk1 = State.reset.blk1 := rfl
@[simp] theorem State.takeReset_blk2 : s.takeReset.blk2 = State.reset.blk2 := rfl
@[simp] theorem State.takeReset_blk3 : s.takeReset.blk3 = State.reset.blk3 := rfl
@[simp] theorem State.takeReset_key : s.takeReset.key = State.reset.key := rfl
@[simp] theorem State.takeReset_mem : s.takeReset.mem = State.reset.mem := rfl
@[simp] theorem State.takeReset_inputs : s.takeReset.inputs = s.inputs := rfl
@[simp] theorem State.takeReset_resp : s.takeReset.resp = s.resp := rfl
@[simp] theorem State.takeReset_resets : s.takeReset.resets = s.resets + 1 := rfl
@[simp] theorem State.takeReset_draws : s.takeReset.draws = s.draws := rfl

@[simp] theorem State.writeBlock_encEn (bs : List Byte) : (s.writeBlock bs).encEn = s.encEn := rfl
@[simp] theorem State.writeBlock_irqEn (bs : List Byte) : (s.writeBlock bs).irqEn = s.irqEn := rfl
@[simp] theorem State.writeBlock_autoinc (bs : List Byte) : (s.writeBlock bs).autoinc = s.autoinc := rfl
@[simp] theorem State.writeBlock_done (bs : List Byte) : (s.writeBlock bs).done = s.done := rfl
@[simp] theorem State.writeBlock_haz (bs : List Byte) : (s.writeBlock bs).haz = s.haz := rfl
@[simp] theorem State.writeBlock_ctrWrap (bs : List Byte) : (s.writeBlock bs).ctrWrap = s.ctrWrap := rfl
@[simp] theorem State.writeBlock_result (bs : List Byte) : (s.writeBlock bs).result = s.result := rfl
@[simp] theorem State.writeBlock_keyValid (bs : List Byte) : (s.writeBlock bs).keyValid = s.keyValid := rfl
@[simp] theorem State.writeBlock_cipher (bs : List Byte) : (s.writeBlock bs).cipher = s.cipher := rfl
@[simp] theorem State.writeBlock_eng (bs : List Byte) : (s.writeBlock bs).eng = s.eng := rfl
@[simp] theorem State.writeBlock_flen (bs : List Byte) : (s.writeBlock bs).flen = s.flen := rfl
@[simp] theorem State.writeBlock_crcVal (bs : List Byte) : (s.writeBlock bs).crcVal = s.crcVal := rfl
@[simp] theorem State.writeBlock_txType (bs : List Byte) : (s.writeBlock bs).txType = s.txType := rfl
@[simp] theorem State.writeBlock_txSrc (bs : List Byte) : (s.writeBlock bs).txSrc = s.txSrc := rfl
@[simp] theorem State.writeBlock_txDst (bs : List Byte) : (s.writeBlock bs).txDst = s.txDst := rfl
@[simp] theorem State.writeBlock_txCtr (bs : List Byte) : (s.writeBlock bs).txCtr = s.txCtr := rfl
@[simp] theorem State.writeBlock_txNonceHi (bs : List Byte) : (s.writeBlock bs).txNonceHi = s.txNonceHi := rfl
@[simp] theorem State.writeBlock_txNonceLo (bs : List Byte) : (s.writeBlock bs).txNonceLo = s.txNonceLo := rfl
@[simp] theorem State.writeBlock_txPlen (bs : List Byte) : (s.writeBlock bs).txPlen = s.txPlen := rfl
@[simp] theorem State.writeBlock_rxVer (bs : List Byte) : (s.writeBlock bs).rxVer = s.rxVer := rfl
@[simp] theorem State.writeBlock_rxType (bs : List Byte) : (s.writeBlock bs).rxType = s.rxType := rfl
@[simp] theorem State.writeBlock_rxSrc (bs : List Byte) : (s.writeBlock bs).rxSrc = s.rxSrc := rfl
@[simp] theorem State.writeBlock_rxDst (bs : List Byte) : (s.writeBlock bs).rxDst = s.rxDst := rfl
@[simp] theorem State.writeBlock_rxCtr (bs : List Byte) : (s.writeBlock bs).rxCtr = s.rxCtr := rfl
@[simp] theorem State.writeBlock_rxNonceHi (bs : List Byte) : (s.writeBlock bs).rxNonceHi = s.rxNonceHi := rfl
@[simp] theorem State.writeBlock_rxNonceLo (bs : List Byte) : (s.writeBlock bs).rxNonceLo = s.rxNonceLo := rfl
@[simp] theorem State.writeBlock_rxPlen (bs : List Byte) : (s.writeBlock bs).rxPlen = s.rxPlen := rfl
@[simp] theorem State.writeBlock_rxCrc (bs : List Byte) : (s.writeBlock bs).rxCrc = s.rxCrc := rfl
@[simp] theorem State.writeBlock_cfgMagic (bs : List Byte) : (s.writeBlock bs).cfgMagic = s.cfgMagic := rfl
@[simp] theorem State.writeBlock_cfgVersion (bs : List Byte) : (s.writeBlock bs).cfgVersion = s.cfgVersion := rfl
@[simp] theorem State.writeBlock_cfgPtype (bs : List Byte) : (s.writeBlock bs).cfgPtype = s.cfgPtype := rfl
@[simp] theorem State.writeBlock_key0 (bs : List Byte) : (s.writeBlock bs).key0 = s.key0 := rfl
@[simp] theorem State.writeBlock_key1 (bs : List Byte) : (s.writeBlock bs).key1 = s.key1 := rfl
@[simp] theorem State.writeBlock_key2 (bs : List Byte) : (s.writeBlock bs).key2 = s.key2 := rfl
@[simp] theorem State.writeBlock_key3 (bs : List Byte) : (s.writeBlock bs).key3 = s.key3 := rfl
@[simp] theorem State.writeBlock_blk0 (bs : List Byte) : (s.writeBlock bs).blk0 = wordOfBytes (bs.take 4) := rfl
@[simp] theorem State.writeBlock_blk1 (bs : List Byte) : (s.writeBlock bs).blk1 = wordOfBytes ((bs.drop 4).take 4) := rfl
@[simp] theorem State.writeBlock_blk2 (bs : List Byte) : (s.writeBlock bs).blk2 = wordOfBytes ((bs.drop 8).take 4) := rfl
@[simp] theorem State.writeBlock_blk3 (bs : List Byte) : (s.writeBlock bs).blk3 = wordOfBytes ((bs.drop 12).take 4) := rfl
@[simp] theorem State.writeBlock_key (bs : List Byte) : (s.writeBlock bs).key = s.key := rfl
@[simp] theorem State.writeBlock_mem (bs : List Byte) : (s.writeBlock bs).mem = s.mem := rfl
@[simp] theorem State.writeBlock_inputs (bs : List Byte) : (s.writeBlock bs).inputs = s.inputs := rfl
@[simp] theorem State.writeBlock_resp (bs : List Byte) : (s.writeBlock bs).resp = s.resp := rfl
@[simp] theorem State.writeBlock_resets (bs : List Byte) : (s.writeBlock bs).resets = s.resets := rfl
@[simp] theorem State.writeBlock_draws (bs : List Byte) : (s.writeBlock bs).draws = s.draws := rfl

@[simp] theorem State.writeFrame_encEn : s.writeFrame.encEn = s.encEn := rfl
@[simp] theorem State.writeFrame_irqEn : s.writeFrame.irqEn = s.irqEn := rfl
@[simp] theorem State.writeFrame_autoinc : s.writeFrame.autoinc = s.autoinc := rfl
@[simp] theorem State.writeFrame_done : s.writeFrame.done = s.done := rfl
@[simp] theorem State.writeFrame_haz : s.writeFrame.haz = s.haz := rfl
@[simp] theorem State.writeFrame_ctrWrap : s.writeFrame.ctrWrap = s.ctrWrap := rfl
@[simp] theorem State.writeFrame_result : s.writeFrame.result = s.result := rfl
@[simp] theorem State.writeFrame_keyValid : s.writeFrame.keyValid = s.keyValid := rfl
@[simp] theorem State.writeFrame_cipher : s.writeFrame.cipher = s.cipherNeeded s.txType := rfl
@[simp] theorem State.writeFrame_eng : s.writeFrame.eng = s.eng := rfl
@[simp] theorem State.writeFrame_flen : s.writeFrame.flen = BitVec.ofNat 8 (Config.hdrLen + Config.crcLen + s.txLen) := rfl
@[simp] theorem State.writeFrame_crcVal : s.writeFrame.crcVal = s.crcVal := rfl
@[simp] theorem State.writeFrame_txType : s.writeFrame.txType = s.txType := rfl
@[simp] theorem State.writeFrame_txSrc : s.writeFrame.txSrc = s.txSrc := rfl
@[simp] theorem State.writeFrame_txDst : s.writeFrame.txDst = s.txDst := rfl
@[simp] theorem State.writeFrame_txCtr : s.writeFrame.txCtr = s.txCtr := rfl
@[simp] theorem State.writeFrame_txNonceHi : s.writeFrame.txNonceHi = s.txNonceHi := rfl
@[simp] theorem State.writeFrame_txNonceLo : s.writeFrame.txNonceLo = s.txNonceLo := rfl
@[simp] theorem State.writeFrame_txPlen : s.writeFrame.txPlen = s.txPlen := rfl
@[simp] theorem State.writeFrame_rxVer : s.writeFrame.rxVer = s.rxVer := rfl
@[simp] theorem State.writeFrame_rxType : s.writeFrame.rxType = s.rxType := rfl
@[simp] theorem State.writeFrame_rxSrc : s.writeFrame.rxSrc = s.rxSrc := rfl
@[simp] theorem State.writeFrame_rxDst : s.writeFrame.rxDst = s.rxDst := rfl
@[simp] theorem State.writeFrame_rxCtr : s.writeFrame.rxCtr = s.rxCtr := rfl
@[simp] theorem State.writeFrame_rxNonceHi : s.writeFrame.rxNonceHi = s.rxNonceHi := rfl
@[simp] theorem State.writeFrame_rxNonceLo : s.writeFrame.rxNonceLo = s.rxNonceLo := rfl
@[simp] theorem State.writeFrame_rxPlen : s.writeFrame.rxPlen = s.rxPlen := rfl
@[simp] theorem State.writeFrame_rxCrc : s.writeFrame.rxCrc = s.rxCrc := rfl
@[simp] theorem State.writeFrame_cfgMagic : s.writeFrame.cfgMagic = s.cfgMagic := rfl
@[simp] theorem State.writeFrame_cfgVersion : s.writeFrame.cfgVersion = s.cfgVersion := rfl
@[simp] theorem State.writeFrame_cfgPtype : s.writeFrame.cfgPtype = s.cfgPtype := rfl
@[simp] theorem State.writeFrame_key0 : s.writeFrame.key0 = s.key0 := rfl
@[simp] theorem State.writeFrame_key1 : s.writeFrame.key1 = s.key1 := rfl
@[simp] theorem State.writeFrame_key2 : s.writeFrame.key2 = s.key2 := rfl
@[simp] theorem State.writeFrame_key3 : s.writeFrame.key3 = s.key3 := rfl
@[simp] theorem State.writeFrame_blk0 : s.writeFrame.blk0 = s.blk0 := rfl
@[simp] theorem State.writeFrame_blk1 : s.writeFrame.blk1 = s.blk1 := rfl
@[simp] theorem State.writeFrame_blk2 : s.writeFrame.blk2 = s.blk2 := rfl
@[simp] theorem State.writeFrame_blk3 : s.writeFrame.blk3 = s.blk3 := rfl
@[simp] theorem State.writeFrame_key : s.writeFrame.key = s.key := rfl
@[simp] theorem State.writeFrame_mem : s.writeFrame.mem = s.mem.writeBytes fbufBase s.txFrame := by simp only [State.writeFrame]
@[simp] theorem State.writeFrame_inputs : s.writeFrame.inputs = s.inputs := rfl
@[simp] theorem State.writeFrame_resp : s.writeFrame.resp = s.resp := rfl
@[simp] theorem State.writeFrame_resets : s.writeFrame.resets = s.resets := rfl
@[simp] theorem State.writeFrame_draws : s.writeFrame.draws = s.draws := rfl

@[simp] theorem State.writeReceived_encEn : s.writeReceived.encEn = s.encEn := rfl
@[simp] theorem State.writeReceived_irqEn : s.writeReceived.irqEn = s.irqEn := rfl
@[simp] theorem State.writeReceived_autoinc : s.writeReceived.autoinc = s.autoinc := rfl
@[simp] theorem State.writeReceived_done : s.writeReceived.done = s.done := rfl
@[simp] theorem State.writeReceived_haz : s.writeReceived.haz = s.haz := rfl
@[simp] theorem State.writeReceived_ctrWrap : s.writeReceived.ctrWrap = s.ctrWrap := rfl
@[simp] theorem State.writeReceived_result : s.writeReceived.result = s.result := rfl
@[simp] theorem State.writeReceived_keyValid : s.writeReceived.keyValid = s.keyValid := rfl
@[simp] theorem State.writeReceived_cipher : s.writeReceived.cipher = s.cipherNeeded (s.fbuf 3) := rfl
@[simp] theorem State.writeReceived_eng : s.writeReceived.eng = s.eng := rfl
@[simp] theorem State.writeReceived_flen : s.writeReceived.flen = s.flen := rfl
@[simp] theorem State.writeReceived_crcVal : s.writeReceived.crcVal = s.crcVal := rfl
@[simp] theorem State.writeReceived_txType : s.writeReceived.txType = s.txType := rfl
@[simp] theorem State.writeReceived_txSrc : s.writeReceived.txSrc = s.txSrc := rfl
@[simp] theorem State.writeReceived_txDst : s.writeReceived.txDst = s.txDst := rfl
@[simp] theorem State.writeReceived_txCtr : s.writeReceived.txCtr = s.txCtr := rfl
@[simp] theorem State.writeReceived_txNonceHi : s.writeReceived.txNonceHi = s.txNonceHi := rfl
@[simp] theorem State.writeReceived_txNonceLo : s.writeReceived.txNonceLo = s.txNonceLo := rfl
@[simp] theorem State.writeReceived_txPlen : s.writeReceived.txPlen = s.txPlen := rfl
@[simp] theorem State.writeReceived_rxVer : s.writeReceived.rxVer = s.fbuf 2 := rfl
@[simp] theorem State.writeReceived_rxType : s.writeReceived.rxType = s.fbuf 3 := rfl
@[simp] theorem State.writeReceived_rxSrc : s.writeReceived.rxSrc = halfOfBytes (s.readFbuf 4 2) := rfl
@[simp] theorem State.writeReceived_rxDst : s.writeReceived.rxDst = halfOfBytes (s.readFbuf 6 2) := rfl
@[simp] theorem State.writeReceived_rxCtr : s.writeReceived.rxCtr = wordOfBytes (s.readFbuf 8 4) := rfl
@[simp] theorem State.writeReceived_rxNonceHi : s.writeReceived.rxNonceHi = wordOfBytes (s.readFbuf 12 4) := rfl
@[simp] theorem State.writeReceived_rxNonceLo : s.writeReceived.rxNonceLo = wordOfBytes (s.readFbuf 16 4) := rfl
@[simp] theorem State.writeReceived_rxPlen : s.writeReceived.rxPlen = s.fbuf 20 := rfl
@[simp] theorem State.writeReceived_rxCrc : s.writeReceived.rxCrc = s.rxChecksum := rfl
@[simp] theorem State.writeReceived_cfgMagic : s.writeReceived.cfgMagic = s.cfgMagic := rfl
@[simp] theorem State.writeReceived_cfgVersion : s.writeReceived.cfgVersion = s.cfgVersion := rfl
@[simp] theorem State.writeReceived_cfgPtype : s.writeReceived.cfgPtype = s.cfgPtype := rfl
@[simp] theorem State.writeReceived_key0 : s.writeReceived.key0 = s.key0 := rfl
@[simp] theorem State.writeReceived_key1 : s.writeReceived.key1 = s.key1 := rfl
@[simp] theorem State.writeReceived_key2 : s.writeReceived.key2 = s.key2 := rfl
@[simp] theorem State.writeReceived_key3 : s.writeReceived.key3 = s.key3 := rfl
@[simp] theorem State.writeReceived_blk0 : s.writeReceived.blk0 = s.blk0 := rfl
@[simp] theorem State.writeReceived_blk1 : s.writeReceived.blk1 = s.blk1 := rfl
@[simp] theorem State.writeReceived_blk2 : s.writeReceived.blk2 = s.blk2 := rfl
@[simp] theorem State.writeReceived_blk3 : s.writeReceived.blk3 = s.blk3 := rfl
@[simp] theorem State.writeReceived_key : s.writeReceived.key = s.key := rfl
@[simp] theorem State.writeReceived_mem : s.writeReceived.mem = s.mem.writeBytes pbufBase s.rxPayload := rfl
@[simp] theorem State.writeReceived_inputs : s.writeReceived.inputs = s.inputs := rfl
@[simp] theorem State.writeReceived_resp : s.writeReceived.resp = s.resp := rfl
@[simp] theorem State.writeReceived_resets : s.writeReceived.resets = s.resets := rfl
@[simp] theorem State.writeReceived_draws : s.writeReceived.draws = s.draws := rfl

@[simp] theorem State.advanceCounter_encEn : s.advanceCounter.encEn = s.encEn := by
  unfold State.advanceCounter; split <;> rfl
@[simp] theorem State.advanceCounter_irqEn : s.advanceCounter.irqEn = s.irqEn := by
  unfold State.advanceCounter; split <;> rfl
@[simp] theorem State.advanceCounter_autoinc : s.advanceCounter.autoinc = s.autoinc := by
  unfold State.advanceCounter; split <;> rfl
@[simp] theorem State.advanceCounter_done : s.advanceCounter.done = s.done := by
  unfold State.advanceCounter; split <;> rfl
@[simp] theorem State.advanceCounter_haz : s.advanceCounter.haz = s.haz := by
  unfold State.advanceCounter; split <;> rfl
@[simp] theorem State.advanceCounter_ctrWrap : s.advanceCounter.ctrWrap = if s.autoinc then (s.ctrWrap || s.txCtr + 1 == 0) else s.ctrWrap := by
  unfold State.advanceCounter; split <;> rfl
@[simp] theorem State.advanceCounter_result : s.advanceCounter.result = s.result := by
  unfold State.advanceCounter; split <;> rfl
@[simp] theorem State.advanceCounter_keyValid : s.advanceCounter.keyValid = s.keyValid := by
  unfold State.advanceCounter; split <;> rfl
@[simp] theorem State.advanceCounter_cipher : s.advanceCounter.cipher = s.cipher := by
  unfold State.advanceCounter; split <;> rfl
@[simp] theorem State.advanceCounter_eng : s.advanceCounter.eng = s.eng := by
  unfold State.advanceCounter; split <;> rfl
@[simp] theorem State.advanceCounter_flen : s.advanceCounter.flen = s.flen := by
  unfold State.advanceCounter; split <;> rfl
@[simp] theorem State.advanceCounter_crcVal : s.advanceCounter.crcVal = s.crcVal := by
  unfold State.advanceCounter; split <;> rfl
@[simp] theorem State.advanceCounter_txType : s.advanceCounter.txType = s.txType := by
  unfold State.advanceCounter; split <;> rfl
@[simp] theorem State.advanceCounter_txSrc : s.advanceCounter.txSrc = s.txSrc := by
  unfold State.advanceCounter; split <;> rfl
@[simp] theorem State.advanceCounter_txDst : s.advanceCounter.txDst = s.txDst := by
  unfold State.advanceCounter; split <;> rfl
@[simp] theorem State.advanceCounter_txCtr : s.advanceCounter.txCtr = if s.autoinc then s.txCtr + 1 else s.txCtr := by
  unfold State.advanceCounter; split <;> rfl
@[simp] theorem State.advanceCounter_txNonceHi : s.advanceCounter.txNonceHi = s.txNonceHi := by
  unfold State.advanceCounter; split <;> rfl
@[simp] theorem State.advanceCounter_txNonceLo : s.advanceCounter.txNonceLo = s.txNonceLo := by
  unfold State.advanceCounter; split <;> rfl
@[simp] theorem State.advanceCounter_txPlen : s.advanceCounter.txPlen = s.txPlen := by
  unfold State.advanceCounter; split <;> rfl
@[simp] theorem State.advanceCounter_rxVer : s.advanceCounter.rxVer = s.rxVer := by
  unfold State.advanceCounter; split <;> rfl
@[simp] theorem State.advanceCounter_rxType : s.advanceCounter.rxType = s.rxType := by
  unfold State.advanceCounter; split <;> rfl
@[simp] theorem State.advanceCounter_rxSrc : s.advanceCounter.rxSrc = s.rxSrc := by
  unfold State.advanceCounter; split <;> rfl
@[simp] theorem State.advanceCounter_rxDst : s.advanceCounter.rxDst = s.rxDst := by
  unfold State.advanceCounter; split <;> rfl
@[simp] theorem State.advanceCounter_rxCtr : s.advanceCounter.rxCtr = s.rxCtr := by
  unfold State.advanceCounter; split <;> rfl
@[simp] theorem State.advanceCounter_rxNonceHi : s.advanceCounter.rxNonceHi = s.rxNonceHi := by
  unfold State.advanceCounter; split <;> rfl
@[simp] theorem State.advanceCounter_rxNonceLo : s.advanceCounter.rxNonceLo = s.rxNonceLo := by
  unfold State.advanceCounter; split <;> rfl
@[simp] theorem State.advanceCounter_rxPlen : s.advanceCounter.rxPlen = s.rxPlen := by
  unfold State.advanceCounter; split <;> rfl
@[simp] theorem State.advanceCounter_rxCrc : s.advanceCounter.rxCrc = s.rxCrc := by
  unfold State.advanceCounter; split <;> rfl
@[simp] theorem State.advanceCounter_cfgMagic : s.advanceCounter.cfgMagic = s.cfgMagic := by
  unfold State.advanceCounter; split <;> rfl
@[simp] theorem State.advanceCounter_cfgVersion : s.advanceCounter.cfgVersion = s.cfgVersion := by
  unfold State.advanceCounter; split <;> rfl
@[simp] theorem State.advanceCounter_cfgPtype : s.advanceCounter.cfgPtype = s.cfgPtype := by
  unfold State.advanceCounter; split <;> rfl
@[simp] theorem State.advanceCounter_key0 : s.advanceCounter.key0 = s.key0 := by
  unfold State.advanceCounter; split <;> rfl
@[simp] theorem State.advanceCounter_key1 : s.advanceCounter.key1 = s.key1 := by
  unfold State.advanceCounter; split <;> rfl
@[simp] theorem State.advanceCounter_key2 : s.advanceCounter.key2 = s.key2 := by
  unfold State.advanceCounter; split <;> rfl
@[simp] theorem State.advanceCounter_key3 : s.advanceCounter.key3 = s.key3 := by
  unfold State.advanceCounter; split <;> rfl
@[simp] theorem State.advanceCounter_blk0 : s.advanceCounter.blk0 = s.blk0 := by
  unfold State.advanceCounter; split <;> rfl
@[simp] theorem State.advanceCounter_blk1 : s.advanceCounter.blk1 = s.blk1 := by
  unfold State.advanceCounter; split <;> rfl
@[simp] theorem State.advanceCounter_blk2 : s.advanceCounter.blk2 = s.blk2 := by
  unfold State.advanceCounter; split <;> rfl
@[simp] theorem State.advanceCounter_blk3 : s.advanceCounter.blk3 = s.blk3 := by
  unfold State.advanceCounter; split <;> rfl
@[simp] theorem State.advanceCounter_key : s.advanceCounter.key = s.key := by
  unfold State.advanceCounter; split <;> rfl
@[simp] theorem State.advanceCounter_mem : s.advanceCounter.mem = s.mem := by
  unfold State.advanceCounter; split <;> rfl
@[simp] theorem State.advanceCounter_inputs : s.advanceCounter.inputs = s.inputs := by
  unfold State.advanceCounter; split <;> rfl
@[simp] theorem State.advanceCounter_resp : s.advanceCounter.resp = s.resp := by
  unfold State.advanceCounter; split <;> rfl
@[simp] theorem State.advanceCounter_resets : s.advanceCounter.resets = s.resets := by
  unfold State.advanceCounter; split <;> rfl
@[simp] theorem State.advanceCounter_draws : s.advanceCounter.draws = s.draws := by
  unfold State.advanceCounter; split <;> rfl

end Sys2Proof.Machine
end

