-- ==== Sys2Proof/Laws/Ops.lean ====
section
/-! SUPPORT. What the shared operations over the buffers do: the bytes a store changes and keeps, and the lengths and
entries of the byte strings read. -/

namespace Sys2Proof.Machine

/-- A buffer byte depends only on the memory and on the number of resets. -/
theorem State.byteAt_congr {s t : State} (hm : t.mem = s.mem) (hr : t.resets = s.resets) (a : Nat) :
    t.byteAt a = s.byteAt a := by simp only [State.byteAt, hm, hr]

@[simp] theorem State.finish_byteAt (s : State) (c : Result) (a : Nat) : (s.finish c).byteAt a = s.byteAt a := rfl

@[simp] theorem State.answer_byteAt (s : State) (r : Response) (a : Nat) : (s.answer r).byteAt a = s.byteAt a := rfl

@[simp] theorem State.advanceCounter_byteAt (s : State) (a : Nat) : s.advanceCounter.byteAt a = s.byteAt a :=
  State.byteAt_congr (by simp) (by simp) a

/-- A store changes no byte outside the bytes stored. -/
theorem State.byteAt_store_out (s : State) (a : Nat) (bs : List Byte) (x : Nat) (h : x < a ∨ a + bs.length ≤ x) :
    (s.store a bs).byteAt x = s.byteAt x := by
  simp only [State.byteAt, State.store_mem, State.store_resets, Memory.read_writeBytes_out bs s.mem a x h]

/-- A store's byte k is the k-th byte stored. -/
theorem State.byteAt_store_in (s : State) (a : Nat) (bs : List Byte) (k : Nat) (h : k < bs.length) :
    (s.store a bs).byteAt (a + k) = bs[k] := by
  simp only [State.byteAt, State.store_mem, Memory.read_writeBytes_in bs s.mem a k h, List.getElem?_eq_getElem h,
    Option.getD_some]

@[simp] theorem State.bytesAt_length (s : State) (a len : Nat) : (s.bytesAt a len).length = len := by
  simp [State.bytesAt]

@[simp] theorem State.readFbuf_length (s : State) (off len : Nat) : (s.readFbuf off len).length = len := by
  simp [State.readFbuf]

@[simp] theorem State.readPbuf_length (s : State) (off len : Nat) : (s.readPbuf off len).length = len := by
  simp [State.readPbuf]

@[simp] theorem State.bytesAt_getElem (s : State) (a len k : Nat) (h : k < (s.bytesAt a len).length) :
    (s.bytesAt a len)[k] = s.byteAt (a + k) := by simp [State.bytesAt]

@[simp] theorem State.readFbuf_getElem (s : State) (off len k : Nat) (h : k < (s.readFbuf off len).length) :
    (s.readFbuf off len)[k] = s.byteAt (fbufBase + off + k) := by simp [State.readFbuf]

@[simp] theorem State.readPbuf_getElem (s : State) (off len k : Nat) (h : k < (s.readPbuf off len).length) :
    (s.readPbuf off len)[k] = s.byteAt (pbufBase + off + k) := by simp [State.readPbuf]

/-- Two states that agree on the bytes of a range read the same string there. -/
theorem State.bytesAt_congr {s t : State} {a len : Nat} (h : ∀ k, k < len → t.byteAt (a + k) = s.byteAt (a + k)) :
    t.bytesAt a len = s.bytesAt a len := by
  apply List.ext_getElem
  · simp
  · intro k hk _
    simpa using h k (by simpa using hk)

/-- A range read in two parts. -/
theorem State.bytesAt_append (s : State) (a m n : Nat) :
    s.bytesAt a m ++ s.bytesAt (a + m) n = s.bytesAt a (m + n) := by
  simp [State.bytesAt, List.range_add, Nat.add_assoc]

/-- What stands in a range after a store of exactly that many bytes. -/
theorem State.bytesAt_store (s : State) (a : Nat) (bs : List Byte) : (s.store a bs).bytesAt a bs.length = bs := by
  apply List.ext_getElem
  · simp
  · intro k hk h
    rw [State.bytesAt_getElem, State.byteAt_store_in s a bs k h]

@[simp] theorem State.txNonce_length (s : State) : s.txNonce.length = 8 := by simp [State.txNonce]

@[simp] theorem State.blockBytes_length (s : State) : s.blockBytes.length = 16 := by simp [State.blockBytes]

@[simp] theorem State.keyBytes_length (s : State) : s.keyBytes.length = 16 := by simp [State.keyBytes]

end Sys2Proof.Machine
end

