-- ==== Sys2Proof/Laws/Bus.lean ====
section
/-! SUPPORT. What a host access can do. -/

namespace Sys2Proof.Machine

/-- Window offset o is host address P_BASE + o (20_memory.md R60). -/
theorem windowOffset_base {o : Nat} (h : o < 0x400) : windowOffset (Config.pBase + o) = some o := by
  rw [windowOffset, if_pos ⟨by omega, by rw [Config.windowBytes]; omega⟩]
  simp

/-- An address that the window holds is P_BASE plus its offset. -/
theorem windowOffset_some {addr o : Nat} (h : windowOffset addr = some o) : addr = Config.pBase + o ∧ o < 0x400 := by
  rw [windowOffset] at h
  split at h
  · rename_i hw
    rw [Config.windowBytes] at hw
    simp only [Option.some.injEq] at h
    omega
  · simp at h

/-- An allowed access is 4 bytes wide at an offset that is a multiple of 4 (R61). -/
theorem aligned32_iff (o size : Nat) : aligned32 o size = true ↔ size = 4 ∧ o % 4 = 0 := by simp [aligned32]

/-- An aligned 32-bit read of a listed register or buffer word. -/
theorem hostRead_listed (s : State) {o : Nat} {r : Reg} (ho : o < 0x400) (h4 : o % 4 = 0) (hr : regAt o = some r) :
    s.hostRead (Config.pBase + o) 4 = .next (s.busRead r) := by
  simp [State.hostRead, windowOffset_base ho, State.readOffset, aligned32, h4, hr]

/-- An aligned 32-bit write to a listed register or buffer word that is not read-only. -/
theorem hostWrite_listed (s : State) {o : Nat} {r : Reg} (v : Word) (ho : o < 0x400) (h4 : o % 4 = 0)
    (hr : regAt o = some r) (hw : r.readOnly = false) :
    s.hostWrite (Config.pBase + o) 4 v = .next (s.busWrite r v) := by
  simp [State.hostWrite, windowOffset_base ho, State.writeOffset, aligned32, h4, hr, hw]

/-- An idle read answers the current value (R20). -/
theorem busRead_idle {s : State} (h : s.eng = .idle) (r : Reg) : s.busRead r = s.answer (.data (s.regValue r)) := by
  simp [State.busRead, State.busy, h]

/-- An idle write takes effect (R20). -/
theorem busWrite_idle {s : State} (h : s.eng = .idle) (r : Reg) (v : Word) :
    s.busWrite r v = (s.writeReg r v).answer .ack := by
  simp [State.busWrite, State.busy, h]

/-- Everything a host read can do when it answers a next state: nothing, outside the window; else the read of the listed
register or buffer word. -/
theorem hostRead_cases {s t : State} {addr size : Nat} (h : s.hostRead addr size = .next t) :
    (windowOffset addr = none ∧ t = s.answer .none) ∨
    ∃ o r, addr = Config.pBase + o ∧ o < 0x400 ∧ o % 4 = 0 ∧ size = 4 ∧ regAt o = some r ∧ t = s.busRead r := by
  simp only [State.hostRead, State.readOffset] at h
  split at h
  · rename_i hw
    exact .inl ⟨hw, by simpa using h.symm⟩
  · rename_i o hw
    split at h
    · rename_i ha
      obtain ⟨h4, ho⟩ := (aligned32_iff _ _).1 ha
      split at h
      · simp at h
      · rename_i r hr
        obtain ⟨h1, h2⟩ := windowOffset_some hw
        exact .inr ⟨o, r, h1, h2, ho, h4, hr, by simpa using h.symm⟩
    · simp at h

/-- Everything a host write can do when it answers a next state: nothing, outside the window; else the write of the listed
register or buffer word, which is not read-only. -/
theorem hostWrite_cases {s t : State} {addr size : Nat} {v : Word} (h : s.hostWrite addr size v = .next t) :
    (windowOffset addr = none ∧ t = s.answer .none) ∨
    ∃ o r, addr = Config.pBase + o ∧ o < 0x400 ∧ o % 4 = 0 ∧ size = 4 ∧ regAt o = some r ∧ r.readOnly = false ∧
      t = s.busWrite r v := by
  simp only [State.hostWrite, State.writeOffset] at h
  split at h
  · rename_i hw
    exact .inl ⟨hw, by simpa using h.symm⟩
  · rename_i o hw
    split at h
    · rename_i ha
      obtain ⟨h4, ho⟩ := (aligned32_iff _ _).1 ha
      split at h
      · simp at h
      · rename_i r hr
        obtain ⟨h1, h2⟩ := windowOffset_some hw
        split at h
        · simp at h
        · rename_i hro
          exact .inr ⟨o, r, h1, h2, ho, h4, hr, by simpa using hro, by simpa using h.symm⟩
    · simp at h

/-- The offset of FBUF word k (R40). -/
theorem regAt_fbufWord {o k : Nat} (ho : o % 4 = 0) (h : regAt o = some (.fbufWord k)) : o = 0x100 + 4 * k ∧ k < 36 := by
  simp only [regAt, fbufBase, pbufBase, Config.fbufBytes, Config.pbufBytes] at h
  split at h
  · simp only [Option.some.injEq, Reg.fbufWord.injEq] at h
    omega
  · split at h
    · simp at h
    · exfalso
      revert h
      simp only [registerMap, List.cons_append, List.nil_append, List.lookup]
      repeat (first | (split; · simp) | simp)

/-- The offset of PBUF word k (R41). -/
theorem regAt_pbufWord {o k : Nat} (ho : o % 4 = 0) (h : regAt o = some (.pbufWord k)) : o = 0x200 + 4 * k ∧ k < 30 := by
  simp only [regAt, fbufBase, pbufBase, Config.fbufBytes, Config.pbufBytes] at h
  split at h
  · simp at h
  · split at h
    · simp only [Option.some.injEq, Reg.pbufWord.injEq] at h
      omega
    · exfalso
      revert h
      simp only [registerMap, List.cons_append, List.nil_append, List.lookup]
      repeat (first | (split; · simp) | simp)

end Sys2Proof.Machine
end

