-- ==== Sys2Proof/Laws/Cipher.lean ====
section
/-! SUPPORT. Lengths in the cipher: a block is 16 bytes, a keystream as long as asked for. -/

namespace Sys2Proof.Machine

@[simp] theorem addRoundKey_length (ws : List (List Byte)) (n : Nat) (s : List Byte) :
    (addRoundKey ws n s).length = 16 := by simp [addRoundKey]

@[simp] theorem aesEncrypt_length (k b : List Byte) : (aesEncrypt k b).length = 16 := by simp [aesEncrypt]

/-- The keystream before its tail is discarded: 16 bytes for every block. -/
theorem keystreamBlocks_length (k nonce : List Byte) (ctr : Word) (n : Nat) :
    ((List.range n).flatMap fun j => aesEncrypt k (counterBlock nonce ctr j)).length = 16 * n := by
  simp [List.length_flatMap, Nat.mul_comm]

@[simp] theorem keystream_length (k nonce : List Byte) (ctr : Word) (len : Nat) :
    (keystream k nonce ctr len).length = len := by
  rw [keystream, List.length_take, keystreamBlocks_length]
  omega

@[simp] theorem State.ctrPayload_length (s : State) : s.ctrPayload.length = s.txLen := by simp [State.ctrPayload]

/-- Byte j of PBUF enciphered by the keystream. -/
theorem State.ctrPayload_getElem (s : State) (j : Nat) (h : j < s.ctrPayload.length) :
    s.ctrPayload[j] = s.byteAt (pbufBase + j) ^^^
      (keystream s.keyBytes s.txNonce s.txCtr s.txLen)[j]'(by simpa using h) := by
  simp [State.ctrPayload, xorBytes]

end Sys2Proof.Machine
end

