-- ==== Sys2Proof/Laws/Codec.lean ====
section
/-! SUPPORT. Lengths of the frame's parts, and what each command can answer: one lemma per command. -/

namespace Sys2Proof.Machine

@[simp] theorem State.txHeader_length (s : State) : s.txHeader.length = 21 := by simp [State.txHeader]

@[simp] theorem State.txPayload_length (s : State) : s.txPayload.length = s.txLen := by
  unfold State.txPayload
  split <;> simp

@[simp] theorem State.txBody_length (s : State) : s.txBody.length = 21 + s.txLen := by simp [State.txBody]

@[simp] theorem State.txFrame_length (s : State) : s.txFrame.length = 23 + s.txLen := by
  simp [State.txFrame]
  omega

@[simp] theorem State.rxPayload_length (s : State) : s.rxPayload.length = s.rxLen := by
  unfold State.rxPayload
  split <;> simp

/-- Everything ENCODE can do (R120, R122, R124). -/
theorem execEncode_cases {s t : State} (h : execEncode s = .next t) :
    (120 < s.txLen ∧ t = s.finish .tooLong) ∨
    (s.txLen ≤ 120 ∧ s.keyMissing s.txType = true ∧ t = s.finish .keyErr) ∨
    (s.txLen ≤ 120 ∧ s.keyMissing s.txType = false ∧ t = s.writeFrame.advanceCounter.finish .ok) := by
  simp only [execEncode, Config.maxPayload, Host.Outcome.next.injEq] at h
  split at h
  · exact .inl ⟨‹_›, h.symm⟩
  · split at h
    · exact .inr (.inl ⟨by omega, ‹_›, h.symm⟩)
    · rename_i hk
      exact .inr (.inr ⟨by omega, by simpa using hk, h.symm⟩)

/-- Everything CTR_PBUF can do (R172). -/
theorem execCtrPbuf_cases {s t : State} (h : execCtrPbuf s = .next t) :
    (120 < s.txLen ∧ t = s.finish .tooLong) ∨
    (s.txLen ≤ 120 ∧ s.keyValid = false ∧ t = s.finish .keyErr) ∨
    (s.txLen ≤ 120 ∧ s.keyValid = true ∧ t = (s.store pbufBase s.ctrPayload).finish .ok) := by
  simp only [execCtrPbuf, Config.maxPayload, Host.Outcome.next.injEq] at h
  split at h
  · exact .inl ⟨‹_›, h.symm⟩
  · split at h
    · exact .inr (.inl ⟨by omega, by simp_all, h.symm⟩)
    · exact .inr (.inr ⟨by omega, by simp_all, h.symm⟩)

/-- Everything AES_BLOCK can do (R173). -/
theorem execAesBlock_cases {s t : State} (h : execAesBlock s = .next t) :
    (s.keyValid = false ∧ t = s.finish .keyErr) ∨
    (s.keyValid = true ∧ t = (s.writeBlock (aesEncrypt s.keyBytes s.blockBytes)).finish .ok) := by
  simp only [execAesBlock, Host.Outcome.next.injEq] at h
  split at h
  · exact .inl ⟨by simp_all, h.symm⟩
  · exact .inr ⟨by simp_all, h.symm⟩

/-- Everything DECODE can do (R130, R134). -/
theorem execDecode_cases {s t : State} (h : execDecode s = .next t) :
    (s.decodeCheck = .ok ∧ t = s.writeReceived.finish .ok) ∨
    (s.decodeCheck ≠ .ok ∧ t = s.finish s.decodeCheck) := by
  simp only [execDecode, Host.Outcome.next.injEq] at h
  split at h
  · exact .inl ⟨‹_›, h.symm⟩
  · exact .inr ⟨‹_›, h.symm⟩

/-- What a passed check says of the frame (R133): its exact length, at most 143, and no missing key. -/
theorem decodeCheck_ok {s : State} (h : s.decodeCheck = .ok) :
    s.frameLen = 23 + s.rxLen ∧ s.rxLen ≤ 120 ∧ s.keyMissing (s.fbuf 3) = false ∧
      s.readFbuf 0 2 = bytesOfHalf s.cfgMagic ∧ frameCrc (s.readFbuf 0 (s.frameLen - 2)) = s.rxChecksum := by
  simp only [State.decodeCheck, Config.decPrefilter, Config.maxFrame, Config.hdrLen, Config.crcLen, ne_eq] at h
  by_cases h1 : s.frameLen < 22 ∨ 143 < s.frameLen
  · simp [h1] at h
  by_cases h2 : s.readFbuf 0 2 = bytesOfHalf s.cfgMagic
  · by_cases h3 : frameCrc (s.readFbuf 0 (s.frameLen - 2)) = s.rxChecksum
    · by_cases h4 : 21 + s.rxLen + 2 = s.frameLen
      · by_cases h5 : s.keyMissing (s.fbuf 3) = true
        · simp [h1, h2, h3, h4, h5] at h
        · exact ⟨by omega, by omega, by simpa using h5, h2, h3⟩
      · simp [h1, h2, h3, h4] at h
    · simp [h1, h2, h3] at h
  · simp [h1, h2] at h

end Sys2Proof.Machine
end

