-- ==== Sys2Proof/Laws/Crc.lean ====
section
/-! SUPPORT. The checksum: composition, linearity of its shift over exclusive or, and that no shift loses information. -/

namespace Sys2Proof.Machine

/-- Composition (40_crc.md R106). -/
@[simp] theorem crc16_append (S T : List Byte) (c : Half) : crc16 (S ++ T) c = crc16 T (crc16 S c) :=
  List.foldl_append

@[simp] theorem crc16_nil (c : Half) : crc16 [] c = c := rfl

@[simp] theorem crc16_cons (b : Byte) (S : List Byte) (c : Half) : crc16 (b :: S) c = crc16 S (crcStep c b) := rfl

/-- The shift is linear over exclusive or. -/
theorem crcShift_xor (c d : Half) : crcShift (c ^^^ d) = crcShift c ^^^ crcShift d := by
  simp only [crcShift, BitVec.getLsbD_xor]
  have h : (c ^^^ d) <<< 1 = c <<< 1 ^^^ d <<< 1 := BitVec.shiftLeft_xor_distrib c d 1
  have hp (x y : Half) : x ^^^ Config.crcPoly ^^^ (y ^^^ Config.crcPoly) = x ^^^ y := by
    rw [BitVec.xor_assoc, ← BitVec.xor_assoc Config.crcPoly, BitVec.xor_comm Config.crcPoly, BitVec.xor_assoc,
      BitVec.xor_self, BitVec.xor_zero]
  cases c.getLsbD 15 <;> cases d.getLsbD 15 <;>
    simp only [h, hp, Bool.xor_true, Bool.xor_false, Bool.not_true, Bool.not_false, if_true, if_false,
      Bool.false_eq_true]
  · rw [BitVec.xor_assoc]
  · rw [BitVec.xor_assoc, BitVec.xor_assoc, BitVec.xor_comm Config.crcPoly]

theorem crcShifts_xor (n : Nat) (c d : Half) : crcShifts n (c ^^^ d) = crcShifts n c ^^^ crcShifts n d := by
  induction n generalizing c d with
  | zero => rfl
  | succ n ih => simp only [crcShifts, crcShift_xor, ih]

/-- A shift of a nonzero register is nonzero: the generator's lowest term is 1, so no shift loses information. -/
theorem crcShift_eq_zero {c : Half} (h : crcShift c = 0) : c = 0 := by
  have h0 := congrArg (fun x => x.getLsbD 0) h
  unfold crcShift at h h0
  split at h
  · rename_i h15
    simp [h15, Config.crcPoly] at h0
  · rename_i h15
    have h15' : c.toNat < 2 ^ 15 := by
      have := c.isLt
      simp only [BitVec.getLsbD, Nat.testBit, Nat.shiftRight_eq_div_pow] at h15
      simp at h15
      omega
    apply BitVec.eq_of_toNat_eq
    have h1 := congrArg BitVec.toNat h
    simp [BitVec.toNat_shiftLeft, Nat.shiftLeft_eq] at h1 ⊢
    omega

theorem crcShifts_eq_zero {n : Nat} {c : Half} (h : crcShifts n c = 0) : c = 0 := by
  induction n generalizing c with
  | zero => exact h
  | succ n ih => exact crcShift_eq_zero (ih h)

/-- Shifting is injective. -/
theorem crcShifts_inj {n : Nat} {c d : Half} (h : crcShifts n c = crcShifts n d) : c = d := by
  have : crcShifts n (c ^^^ d) = 0 := by rw [crcShifts_xor, h]; exact BitVec.xor_self
  have := crcShifts_eq_zero this
  calc c = c ^^^ d ^^^ d := by rw [BitVec.xor_assoc, BitVec.xor_self, BitVec.xor_zero]
    _ = d := by rw [this]; exact BitVec.zero_xor

end Sys2Proof.Machine
end

