-- ==== Sys2Proof/Laws/Decode.lean ====
section
/-! SUPPORT. The fields of a command word as arithmetic on its value, and the fields of a word built from them. -/

namespace Sys2Proof

theorem opField_eq (w : Word) : opField w = w.toNat % 256 := by
  simp [opField, BitVec.extractLsb'_toNat]

theorem aField_eq (w : Word) : aField w = w.toNat / 256 % 256 := by
  simp [aField, BitVec.extractLsb'_toNat, Nat.shiftRight_eq_div_pow]

theorem bField_eq (w : Word) : bField w = w.toNat / 65536 % 256 := by
  simp [bField, BitVec.extractLsb'_toNat, Nat.shiftRight_eq_div_pow]

theorem rsvField_eq (w : Word) : rsvField w = w.toNat / 16777216 := by
  have := w.isLt
  simp only [rsvField, BitVec.extractLsb'_toNat, Nat.shiftRight_eq_div_pow]
  omega

/-- A word is the sum of its four fields at their places (30_encoding.md R80). -/
theorem word_eq_fields (w : Word) :
    w.toNat = rsvField w * 2 ^ 24 + bField w * 2 ^ 16 + aField w * 2 ^ 8 + opField w := by
  have := w.isLt
  simp only [opField_eq, aField_eq, bField_eq, rsvField_eq]
  omega

/-- The value of a word built from fields that fit. -/
theorem commandWord_toNat {op a b : Nat} (ho : op < 256) (ha : a < 256) (hb : b < 256) :
    (commandWord op a b).toNat = b * 2 ^ 16 + a * 2 ^ 8 + op := by
  simp only [commandWord, BitVec.toNat_ofNat]
  omega

/-- The fields of a word built from fields that fit. -/
theorem commandWord_fields {op a b : Nat} (ho : op < 256) (ha : a < 256) (hb : b < 256) :
    opField (commandWord op a b) = op ∧ aField (commandWord op a b) = a ∧ bField (commandWord op a b) = b ∧
      rsvField (commandWord op a b) = 0 := by
  simp only [opField_eq, aField_eq, bField_eq, rsvField_eq, commandWord_toNat ho ha hb]
  omega

end Sys2Proof
end

