-- ==== Sys2Proof/Laws/PerInstr.lean ====
section
/-! SUPPORT. Statements about every command as syntax, one lemma per constructor. -/

namespace Sys2Proof.Laws.EncodesToValidWord

/-- The encoding of a well-formed command is a valid command word by the three conditions of 30_encoding.md R81. -/
def Statement (i : Instr) : Prop := i.wellFormed = true → Sys2Proof.Machine.validWord (encode i)

/-- A word whose opcode has a row, with fields that fit and the row's zero fields 0, is valid. -/
theorem valid_commandWord {op a b : Nat} (ho : op ∈ Sys2Proof.Machine.definedOpcodes) (ha : a < 256) (hb : b < 256)
    (hza : op ∉ [0x02, 0x03, 0x04] → a = 0) (hzb : op ∉ [0x03, 0x04] → b = 0) :
    Sys2Proof.Machine.validWord (commandWord op a b) := by
  have hlt : op < 256 := by
    simp only [Sys2Proof.Machine.definedOpcodes, List.mem_cons, List.not_mem_nil, or_false] at ho
    omega
  obtain ⟨h1, h2, h3, h4⟩ := commandWord_fields hlt ha hb
  simp only [Sys2Proof.Machine.validWord, h1, h2, h3, h4]
  exact ⟨ho, trivial, hza, hzb⟩

theorem nop : Statement .nop := fun _ => valid_commandWord (by decide) (by decide) (by decide) (by decide) (by decide)

theorem crcInit : Statement .crcInit :=
  fun _ => valid_commandWord (by decide) (by decide) (by decide) (by decide) (by decide)

theorem crcByte (data : Byte) : Statement (.crcByte data) :=
  fun _ => valid_commandWord (by decide) data.isLt (by decide) (fun h => absurd (by decide) h) (fun _ => rfl)

theorem crcFbuf (off len : Nat) : Statement (.crcFbuf off len) := fun h => by
  simp only [Instr.wellFormed, fitsField, Bool.and_eq_true, decide_eq_true_eq] at h
  exact valid_commandWord (by decide) h.1 h.2 (fun h => absurd (by decide) h) (fun h => absurd (by decide) h)

theorem crcPbuf (off len : Nat) : Statement (.crcPbuf off len) := fun h => by
  simp only [Instr.wellFormed, fitsField, Bool.and_eq_true, decide_eq_true_eq] at h
  exact valid_commandWord (by decide) h.1 h.2 (fun h => absurd (by decide) h) (fun h => absurd (by decide) h)

theorem encode : Statement .encode :=
  fun _ => valid_commandWord (by decide) (by decide) (by decide) (by decide) (by decide)

theorem decode : Statement .decode :=
  fun _ => valid_commandWord (by decide) (by decide) (by decide) (by decide) (by decide)

theorem keyLoad : Statement .keyLoad :=
  fun _ => valid_commandWord (by decide) (by decide) (by decide) (by decide) (by decide)

theorem keyClear : Statement .keyClear :=
  fun _ => valid_commandWord (by decide) (by decide) (by decide) (by decide) (by decide)

theorem ctrPbuf : Statement .ctrPbuf :=
  fun _ => valid_commandWord (by decide) (by decide) (by decide) (by decide) (by decide)

theorem aesBlock : Statement .aesBlock :=
  fun _ => valid_commandWord (by decide) (by decide) (by decide) (by decide) (by decide)

end Sys2Proof.Laws.EncodesToValidWord
end

