-- ==== Sys2Proof/Laws/Step.lean ====
section
/-! SUPPORT. Everything a step can do: one case per event, and the engine's turn. -/

namespace Sys2Proof.Machine

/-- The meaning of every command answers a next state (43_control.md R195). -/
theorem exec_next (i : Instr) (s : State) : ∃ t, exec i s = .next t := by
  cases i <;> exact ⟨_, rfl⟩

/-- The engine's turn always answers a next state (R195). -/
theorem engineTurn_next (s : State) : ∃ t, s.engineTurn = .next t := by
  unfold State.engineTurn
  split
  · exact ⟨_, rfl⟩
  · unfold State.execute
    split
    · exact exec_next _ _
    · exact ⟨_, rfl⟩

/-- Everything the engine's turn can do: nothing when idle; a valid command's meaning; an invalid word's completion. -/
theorem engineTurn_cases {s t : State} (h : s.engineTurn = .next t) :
    (s.eng = .idle ∧ t = s) ∨
    (∃ w i, s.eng = .busy w ∧ decode w = .instr i ∧ exec i s = .next t) ∨
    (∃ w e, s.eng = .busy w ∧ decode w = .rejected e ∧ t = s.finish .illegalCmd) := by
  unfold State.engineTurn at h
  split at h
  · rename_i he
    exact .inl ⟨he, by simpa using h.symm⟩
  · rename_i w he
    unfold State.execute at h
    split at h
    · rename_i i hd
      exact .inr (.inl ⟨w, i, he, hd, h⟩)
    · rename_i e hd
      exact .inr (.inr ⟨w, e, he, hd, by simpa [execIllegal] using h.symm⟩)

/-- Everything a step can do. -/
theorem step_cases {s t : State} (h : step s = .next t) :
    (s.inputs = [] ∧ s.engineTurn = .next t) ∨
    ∃ e rest, s.inputs = e :: rest ∧
      ((∃ addr size, e = .read addr size ∧ ({ s with inputs := rest } : State).hostRead addr size = .next t) ∨
       (∃ addr size v, e = .write addr size v ∧ ({ s with inputs := rest } : State).hostWrite addr size v = .next t) ∨
       (e = .rst ∧ t = ({ s with inputs := rest } : State).takeReset) ∨
       (e = .engine ∧ ({ s with inputs := rest } : State).engineTurn = .next t)) := by
  unfold step State.advance at h
  split at h
  · rename_i hi
    exact .inl ⟨hi, h⟩
  · rename_i e rest hi
    refine .inr ⟨e, rest, hi, ?_⟩
    cases e with
    | read addr size => exact .inl ⟨addr, size, rfl, h⟩
    | write addr size v => exact .inr (.inl ⟨addr, size, v, rfl, h⟩)
    | rst => exact .inr (.inr (.inl ⟨rfl, by simpa [State.react] using h.symm⟩))
    | engine => exact .inr (.inr (.inr ⟨rfl, h⟩))

end Sys2Proof.Machine
end

