-- ==== Sys2Proof/Tests/Slice0.lean ====
section
/-! SUPPORT. The model's own tests: refusals of ill-formed commands, one word per command written out from the encoding
of 30_encoding.md, vectors of 95_test_vectors.md run for one step, and for every statement with hypotheses a concrete
state that meets them. -/

namespace Sys2Proof.Tests

open Sys2Proof.Machine

-- The kernel evaluations below run one after another: side by side their thread stacks exceed a memory limit.
set_option Elab.async false

/-! ### WellFormed and the decoder -/

theorem test_crcFbuf_offset_too_wide : (Instr.crcFbuf 256 0).wellFormed = false := by decide
theorem test_crcFbuf_length_too_wide : (Instr.crcFbuf 0 256).wellFormed = false := by decide
theorem test_crcPbuf_offset_too_wide : (Instr.crcPbuf 256 0).wellFormed = false := by decide
theorem test_crcPbuf_length_too_wide : (Instr.crcPbuf 0 256).wellFormed = false := by decide

/-! Words written out field by field from R80 and R82: RSV, B, A, OP. -/

theorem test_decode_nop : decode (0x00#8 ++ 0x00#8 ++ 0x00#8 ++ 0x00#8) = .instr .nop := by decide
theorem test_decode_crcInit : decode (0x00#8 ++ 0x00#8 ++ 0x00#8 ++ 0x01#8) = .instr .crcInit := by decide
theorem test_decode_crcByte : decode (0x00#8 ++ 0x00#8 ++ 0x31#8 ++ 0x02#8) = .instr (.crcByte 0x31) := by decide
theorem test_decode_crcFbuf : decode (0x00#8 ++ 0x2D#8 ++ 0x64#8 ++ 0x03#8) = .instr (.crcFbuf 100 45) := by decide
theorem test_decode_crcPbuf : decode (0x00#8 ++ 0x01#8 ++ 0x78#8 ++ 0x04#8) = .instr (.crcPbuf 120 1) := by decide
theorem test_decode_encode : decode (0x00#8 ++ 0x00#8 ++ 0x00#8 ++ 0x10#8) = .instr .encode := by decide
theorem test_decode_decode : decode (0x00#8 ++ 0x00#8 ++ 0x00#8 ++ 0x11#8) = .instr .decode := by decide
theorem test_decode_keyLoad : decode (0x00#8 ++ 0x00#8 ++ 0x00#8 ++ 0x20#8) = .instr .keyLoad := by decide
theorem test_decode_keyClear : decode (0x00#8 ++ 0x00#8 ++ 0x00#8 ++ 0x21#8) = .instr .keyClear := by decide
theorem test_decode_ctrPbuf : decode (0x00#8 ++ 0x00#8 ++ 0x00#8 ++ 0x22#8) = .instr .ctrPbuf := by decide
theorem test_decode_aesBlock : decode (0x00#8 ++ 0x00#8 ++ 0x00#8 ++ 0x23#8) = .instr .aesBlock := by decide

/-- Only the eleven opcodes of R82 are accepted. -/
theorem test_other_opcodes_are_rejected : ∀ op : Fin 256, op.val ∉ definedOpcodes →
    decode (commandWord op.val 0 0) = .rejected .reservedOpcode := by decide +kernel

/-- Argument B of CRC_BYTE must be 0 (the vector CRC-15), and RSV of any word (CTL-3). -/
theorem test_invalid_words : decode 0x00014102 = .rejected .argumentNonzero ∧
    decode 0x01000000 = .rejected .reservedFieldNonzero ∧ decodeTableWord 32 0x00000110 = none := by decide

/-! ### Vectors of 95_test_vectors.md, one step each, with its example parameters -/

/-- The state after reset with the example parameters of 95_test_vectors.md in the CFG_ registers. -/
def base : State := { State.reset with cfgMagic := 0x4D57, cfgVersion := 0x01, cfgPtype := 0x04030201 }

/-- The example key is loaded. -/
def keyed : State := { base with key := 0x000102030405060708090A0B0C0D0E0F, keyValid := true }

/-- The transmit registers of the vector ENC-2, and its payload "hello" in PBUF. -/
def hello (s : State) : State :=
  { s with txType := 0x10, txSrc := 0x1234, txDst := 0xB5C6, txCtr := 1, txNonceHi := 0x00112233,
           txNonceLo := 0x44556677, txPlen := 5, mem := Memory.writeBytes [] 0x200 (be 5 0x68656C6C6F) }

/-- The frame of n bytes in FBUF, with FLEN = n. -/
def received (s : State) (n frame : Nat) : State :=
  { s with flen := BitVec.ofNat 8 n, mem := s.mem.writeBytes 0x100 (be n frame) }

/-- The frame of the vector ENC-1, with no payload. -/
def enc1 : Nat := 0x4D5701011234FFFF00000000001122334455667700C95C

/-- The frame of the vector ENC-2. -/
def enc2 : Nat := 0x4D5701101234B5C60000000100112233445566770559D36A0C55F13F

/-- The frame of the vector ENC-6, with 120 bytes of payload. -/
def enc6 : List Byte :=
  be 21 0x4D570102B5C6123400000007001122334455667778 ++ (List.range 120).map (BitVec.ofNat 8) ++ be 2 0x45EA

/-- The state a step answers, if it answers one. -/
def next? : Host.Outcome State Fault Refusal → Option State
  | .next t => some t
  | .fault _ => none
  | .refused _ => none

/-- CTL-1: after NOP, STATUS reads DONE alone. -/
theorem test_nop : (next? (step (base.withFetchWord 32 0x00000000))).map State.statusWord = some 0x00000002 := by
  decide +kernel

/-- CTL-2: a reserved opcode gives STATUS 0x12. -/
theorem test_illegal : (next? (step (base.withFetchWord 32 0x00000005))).map State.statusWord = some 0x00000012 := by
  decide +kernel

/-- CRC-11. -/
theorem test_crcInit : (next? (exec .crcInit { base with crcVal := 0x1234 })).map State.crcVal = some 0xFFFF := by
  decide +kernel

/-- CRC-2 and CRC-8. -/
theorem test_crcByte : (next? (exec (.crcByte 0x00) base)).map State.crcVal = some 0xE1F0 ∧
    (next? (exec (.crcByte 0x80) base)).map State.crcVal = some 0x7078 := by decide +kernel

/-- CRC-9. -/
theorem test_crcFbuf : (next? (exec (.crcFbuf 0 26) (received base 28 enc2))).map State.crcVal = some 0xF13F := by
  decide +kernel

/-- CRC-5. -/
theorem test_crcPbuf : (next? (exec (.crcPbuf 0 9) { base with
    mem := Memory.writeBytes [] 0x200 (be 9 0x313233343536373839) })).map State.crcVal = some 0x29B1 := by
  decide +kernel

/-- ENC-2: the enciphered frame. -/
theorem test_encode : (next? (exec .encode (hello keyed))).map (fun t => (t.readFbuf 0 28, t.flen, t.cipher)) =
    some (be 28 enc2, 28, true) := by decide +kernel

/-- ENC-9: the counter wraps under AUTOINC. -/
theorem test_encode_wraps : (next? (exec .encode { base with autoinc := true, txType := 1, txCtr := 0xFFFFFFFF })).map
    (fun t => (t.txCtr, t.ctrWrap, t.flen)) = some (0, true, 23) := by decide +kernel

/-- DEC-1. -/
theorem test_decode : (next? (exec .decode (received keyed 28 enc2))).map
    (fun t => (t.readPbuf 0 5, t.rxSrc, t.rxDst, t.rxCrc, t.cipher)) =
    some (be 5 0x68656C6C6F, 0x1234, 0xB5C6, 0xF13F, true) := by decide +kernel

/-- DEC-5, and DEC-7 (BAD_MAGIC before the checksum). -/
theorem test_decode_rejects :
    (next? (exec .decode (received base 22 0x4D5701011234FFFF000000000011223344556677D112))).map State.result =
      some .badLength ∧
    (next? (exec .decode (received keyed 28 (enc2 + 2 ^ 208)))).map State.result = some .badMagic := by decide +kernel

/-- KEY-1. -/
theorem test_keyLoad : (next? (exec .keyLoad { base with
    key0 := 0x00010203, key1 := 0x04050607, key2 := 0x08090A0B, key3 := 0x0C0D0E0F })).map
    (fun t => (t.key, t.keyValid, t.key0)) = some (keyed.key, true, 0) := by decide +kernel

/-- KEY-3. -/
theorem test_keyClear : (next? (exec .keyClear keyed)).map (fun t => (t.key, t.statusWord)) = some (0, 2) := by
  decide +kernel

/-- CTR-1. -/
theorem test_ctrPbuf : (next? (exec .ctrPbuf (hello keyed))).map (fun t => t.readPbuf 0 5) =
    some (be 5 0x59D36A0C55) := by decide +kernel

/-- CTR-5: TOO_LONG before KEY_ERR. -/
theorem test_ctrPbuf_too_long : (next? (exec .ctrPbuf { base with txPlen := 121 })).map State.result = some .tooLong := by
  decide +kernel

/-- KS-1. -/
theorem test_aesBlock : (next? (exec .aesBlock { keyed with
    blk0 := 0x00112233, blk1 := 0x44556677, blk2 := 1, blk3 := 0 })).map (fun t => (t.blk0, t.blk1, t.blk2, t.blk3)) =
    some (0x31B60660, 0x3A5A4CD2, 0xC5B160B9, 0x8EB7CA74) := by decide +kernel

/-- CTL-9: reads at offset 0x018, at half width, and a write to RX_TYPE fault. -/
theorem test_bus_errors : (next? (base.readOffset 0 0x018 4)).isNone ∧ (next? (base.readOffset 0 0x008 2)).isNone ∧
    (next? (base.writeOffset 0 0x044 4 1)).isNone := by decide +kernel

/-- CTL-8: a soft reset while busy discards the command. -/
theorem test_soft_reset_while_busy :
    (next? ((keyed.issue 0x00000010).writeOffset 0 0x004 4 8)).map (fun t => (t.statusWord, t.ctrlWord)) =
      some (0, 1) := by decide +kernel

/-! ### Witnesses: every hypothesis of a statement met by a concrete state

Each theorem is named after the statement it serves. Where a statement has clauses of its own, each clause has a conjunct,
at a boundary of its range. -/

/-- The step's answer is a next state. -/
theorem isSome_next {o : Host.Outcome State Fault Refusal} (h : (next? o).isSome) : ∃ t, o = .next t := by
  cases o with
  | next t => exact ⟨t, rfl⟩
  | fault r => cases h
  | refused r => cases h

/-- The example state after ENCODE of "hello": its frame is in FBUF. -/
def sent : State := (hello keyed).writeFrame.advanceCounter.finish .ok

theorem exec_encode_hello : exec .encode (hello keyed) = .next sent := rfl

/-- The example state holding the frame ENC-6 of 143 bytes. -/
def longest : State := { base with flen := 143, mem := Memory.writeBytes [] 0x100 enc6 }

theorem test_witness_ValidityOfCommandWords : ¬ validWord 0x00000005 ∧ ¬ validWord 0x01000000 ∧
    ¬ validWord 0x00014102 ∧ ¬ validWord 0x00000110 ∧ base.eng = .idle := by decide

theorem test_witness_StepRunsTheLatchedCommand : decode (BitVec.ofNat 32 0x10) = .instr .encode ∧
    (base.issue (BitVec.ofNat 32 0x10)).eng = .busy (BitVec.ofNat 32 0x10) ∧
    (base.issue (BitVec.ofNat 32 0x10)).inputs = [] ∧
    ({ base.issue (BitVec.ofNat 32 0x10) with inputs := [.engine, .rst] } : State).inputs = .engine :: [.rst] := by decide

theorem test_witness_IssueLatchesTheWord : base.eng = .idle ∧ (base.issue 0x10).eng = .busy 0x10 := by decide

theorem test_witness_EveryCommandCompletes : (base.issue 0x10).eng = .busy 0x10 ∧ decode 0x10 = .instr .encode ∧
    (base.issue 0x05).eng = .busy 0x05 ∧ decode 0x05 = .rejected .reservedOpcode := by decide

theorem test_witness_FailingCommandOnlyCompletes : exec .aesBlock base = .next (base.finish .keyErr) ∧
    (base.finish .keyErr).result ≠ .ok := ⟨rfl, by decide⟩

theorem test_witness_CommandsWriteOnlyTheirOutputs : exec .nop base = .next (base.finish .ok) ∧
    Instr.nop ≠ .encode ∧ Instr.nop ≠ .decode ∧ Instr.nop ≠ .keyLoad ∧ Instr.nop ≠ .keyClear ∧
    Instr.nop ≠ .aesBlock ∧ Instr.nop ≠ .ctrPbuf ∧ Instr.nop ≠ .crcInit ∧ (∀ d, Instr.nop ≠ .crcByte d) ∧
    (∀ o l, Instr.nop ≠ .crcFbuf o l) ∧ (∀ o l, Instr.nop ≠ .crcPbuf o l) := by
  refine ⟨rfl, ?_, ?_, ?_, ?_, ?_, ?_, ?_, ?_, ?_, ?_⟩ <;> simp

/-- The clauses on memory: the bytes next to what each of the three commands writes. -/
theorem test_witness_CommandsWriteOnlyTheirOutputs_memory :
    (exec .encode (hello keyed) = .next sent ∧ 0x0FF < fbufBase ∧ fbufBase + (23 + (hello keyed).txLen) ≤ 0x11C) ∧
    ((∃ t, exec .decode (received keyed 28 enc2) = .next t) ∧ 0x1FF < pbufBase ∧
      pbufBase + (received keyed 28 enc2).rxLen ≤ 0x205) ∧
    ((∃ t, exec .ctrPbuf (hello keyed) = .next t) ∧ pbufBase + (hello keyed).txLen ≤ 0x205) :=
  ⟨⟨rfl, by decide, by decide⟩, ⟨exec_next _ _, by decide, by decide +kernel⟩, exec_next _ _, by decide⟩

theorem bytesAt_getElem (s : State) (a len k : Nat) (h : k < len) : (s.bytesAt a len)[k]? = some (s.byteAt (a + k)) := by
  simp [State.bytesAt, h]

/-- All of FBUF, its end with nothing, and one byte past it. -/
theorem test_witness_CrcFbufFeedsTheRange : 0 + 144 ≤ 144 ∧ (base.readFbuf 0 144).length = 144 ∧
    (∀ k, k < 144 → (base.readFbuf 0 144)[k]? = some (base.byteAt (0x100 + 0 + k))) ∧ 144 + 0 ≤ 144 ∧
    144 < 100 + 45 :=
  ⟨by decide, by simp [State.readFbuf, State.bytesAt], bytesAt_getElem base _ 144, by decide, by decide⟩

/-- All of PBUF, its end with nothing, and one byte past it. -/
theorem test_witness_CrcPbufFeedsTheRange : 0 + 120 ≤ 120 ∧ (base.readPbuf 0 120).length = 120 ∧
    (∀ k, k < 120 → (base.readPbuf 0 120)[k]? = some (base.byteAt (0x200 + 0 + k))) ∧ 120 + 0 ≤ 120 ∧
    120 < 120 + 1 :=
  ⟨by decide, by simp [State.readPbuf, State.bytesAt], bytesAt_getElem base _ 120, by decide, by decide⟩

theorem test_witness_CrcIsAffine : [0x31#8, 0x32#8].length = [0xFF#8, 0x00#8].length := rfl

theorem test_witness_CrcDetectsOddErrors : [0x31#8].length = [0x30#8].length ∧
    ((List.range (8 * [0x31#8].length)).countP fun k =>
      ([0x31#8].getD (k / 8) 0).getLsbD (7 - k % 8) != ([0x30#8].getD (k / 8) 0).getLsbD (7 - k % 8)) % 2 = 1 := by
  decide +kernel

/-- The burst is the 16 bits of the first two bytes. -/
theorem test_witness_CrcDetectsBursts : [0x80#8, 0x01#8].length = [0x00#8, 0x00#8].length ∧
    [0x80#8, 0x01#8] ≠ [0x00#8, 0x00#8] ∧
    ∀ k, k < 0 ∨ 0 + 16 ≤ k → ([0x80#8, 0x01#8].getD (k / 8) 0).getLsbD (7 - k % 8) =
      ([0x00#8, 0x00#8].getD (k / 8) 0).getLsbD (7 - k % 8) := by
  refine ⟨rfl, by decide, fun k hk => ?_⟩
  obtain ⟨n, hn⟩ : ∃ n, k / 8 = n + 2 := ⟨k / 8 - 2, by omega⟩
  simp [hn]

/-- The longest payload with a key, and an empty one of a plaintext type without. -/
theorem test_witness_EncodeLaysOutTheFrame :
    ({ keyed with txPlen := 120 }.txPlen.toNat ≤ 120 ∧ { keyed with txPlen := 120 }.keyValid = true) ∧
    ({ base with txType := 0x01 }.txPlen.toNat ≤ 120 ∧ base.cipherNeeded 0x01 = false) := by decide

theorem test_witness_EncodeWritesOnlyItsOutputs : exec .encode (hello keyed) = .next sent ∧
    (hello keyed).autoinc = false := ⟨rfl, rfl⟩

theorem test_witness_EncodeChecksLengthFirst : 120 < { base with txPlen := 121 }.txPlen.toNat := by decide

theorem test_witness_EncodeNeverSubstitutesPlaintext : (hello base).txPlen.toNat ≤ 120 ∧ (hello base).encEn = true ∧
    (hello base).keyValid = false ∧
    (∀ k, k < 4 → (hello base).txType ≠ (hello base).cfgPtype.extractLsb' (8 * k) 8) := by decide +kernel

/-- An ENCODE that wraps the counter, one without AUTOINC, and a NOP. -/
theorem test_witness_AutoincStepsTheCounter :
    (∃ t, exec .encode { hello keyed with autoinc := true, txCtr := 0xFFFFFFFF } = .next t ∧ t.result = .ok) ∧
    exec .encode (hello keyed) = .next sent ∧ (hello keyed).autoinc = false ∧ exec .nop base = .next (base.finish .ok) :=
  ⟨⟨_, rfl, rfl⟩, rfl, rfl, rfl⟩

/-- A frame DECODE accepts, by the hypotheses of the statement DecodeUnpacksTheFrame. -/
abbrev unpackable (s : State) : Prop :=
  s.flen.toNat = 23 + (s.byteAt 0x114).toNat ∧ s.flen.toNat ≤ 143 ∧
    s.byteAt 0x100 = s.cfgMagic.extractLsb' 8 8 ∧ s.byteAt 0x101 = s.cfgMagic.extractLsb' 0 8 ∧
    crc16 ((List.range (s.flen.toNat - 2)).map fun k => s.byteAt (0x100 + k)) 0xFFFF =
      (s.byteAt (0x100 + (s.flen.toNat - 2)) ++ s.byteAt (0x100 + (s.flen.toNat - 1)) : BitVec 16) ∧
    (s.keyValid = true ∨ s.cipherNeeded (s.byteAt 0x103) = false)

theorem enc6_length : enc6.length = 143 := by simp [enc6]

theorem longest_byte {k : Nat} (h : k < 143) : longest.byteAt (0x100 + k) = enc6[k]'(by simp [enc6_length, h]) :=
  State.byteAt_store_in base 0x100 enc6 k (by simp [enc6_length, h])

/-- The checksum of the 141 bytes, in three parts. -/
theorem enc6_checksum : crc16 (enc6.take 141) 0xFFFF = 0x45EA := by
  have h : enc6.take 141 = enc6.take 47 ++ ((enc6.drop 47).take 47 ++ (enc6.drop 94).take 47) := by decide +kernel
  have h1 : crc16 (enc6.take 47) 0xFFFF = 10868 := by decide +kernel
  have h2 : crc16 ((enc6.drop 47).take 47) 10868 = 51887 := by decide +kernel
  have h3 : crc16 ((enc6.drop 94).take 47) 51887 = 0x45EA := by decide +kernel
  rw [h]
  unfold crc16 at *
  rw [List.foldl_append, List.foldl_append, h1, h2, h3]

theorem longest_unpackable : unpackable longest := by
  have hb : (List.range (143 - 2)).map (fun k => longest.byteAt (0x100 + k)) = enc6.take 141 := by
    apply List.ext_getElem
    · simp [enc6_length]
    · intro k h _
      have hk : k < 141 := by simpa using h
      simp [longest_byte (show k < 143 by omega)]
  have h20 : longest.byteAt 0x114 = 120 := (longest_byte (k := 20) (by omega)).trans (by decide +kernel)
  refine ⟨by rw [h20]; rfl, by decide, (longest_byte (k := 0) (by omega)).trans (by decide +kernel),
    (longest_byte (k := 1) (by omega)).trans (by decide +kernel), ?_, .inr ?_⟩
  · rw [show longest.flen.toNat = 143 from rfl, hb, longest_byte (k := 143 - 2) (by omega),
      longest_byte (k := 143 - 1) (by omega)]
    refine enc6_checksum.trans ?_
    decide +kernel
  · rw [show longest.byteAt 0x103 = 0x02 from (longest_byte (k := 3) (by omega)).trans (by decide +kernel)]
    decide

/-- The shortest frame, one enciphered, and the longest. -/
theorem test_witness_DecodeUnpacksTheFrame : unpackable (received base 23 enc1) ∧
    unpackable (received keyed 28 enc2) ∧ unpackable longest :=
  ⟨by decide +kernel, by decide +kernel, longest_unpackable⟩

theorem test_witness_DecodeRecoversWhatEncodeSent : exec .encode (hello keyed) = .next sent ∧ sent.result = .ok ∧
    (∀ k, k < sent.flen.toNat → sent.byteAt (0x100 + k) = sent.byteAt (0x100 + k)) ∧ 0 < (hello keyed).txPlen.toNat :=
  ⟨rfl, rfl, fun _ _ => rfl, by decide⟩

/-- The frame of `sent` with bit b of byte p flipped. -/
def flipped (p b : Nat) : State := sent.store (0x100 + p) [sent.byteAt (0x100 + p) ^^^ BitVec.twoPow 8 b]

/-- Bit b of byte p of the frame flipped, by the hypotheses of the statement SingleBitFlipIsRejected. -/
abbrev flips (p b : Nat) : Prop :=
  (flipped p b).flen = sent.flen ∧ (flipped p b).cfgMagic = sent.cfgMagic ∧ p < sent.flen.toNat ∧ b < 8 ∧
    (flipped p b).byteAt (0x100 + p) = sent.byteAt (0x100 + p) ^^^ BitVec.twoPow 8 b ∧
    ∀ k, k < sent.flen.toNat → k ≠ p → (flipped p b).byteAt (0x100 + k) = sent.byteAt (0x100 + k)

theorem flips_of_lt {p b : Nat} (hp : p < sent.flen.toNat) (hb : b < 8) : flips p b :=
  ⟨rfl, rfl, hp, hb, State.byteAt_store_in sent (0x100 + p) [_] 0 (by simp),
    fun k _ hk => State.byteAt_store_out sent (0x100 + p) [_] (0x100 + k) (by simp; omega)⟩

theorem sent_length : sent.flen.toNat = 28 := rfl

/-- The bytes on both sides of the clause boundary, and the last. -/
theorem test_witness_SingleBitFlipIsRejected : exec .encode (hello keyed) = .next sent ∧ sent.result = .ok ∧
    flips 1 7 ∧ flips 2 0 ∧ flips 27 0 :=
  ⟨rfl, rfl, flips_of_lt (by rw [sent_length]; omega) (by omega), flips_of_lt (by rw [sent_length]; omega) (by omega),
    flips_of_lt (by rw [sent_length]; omega) (by omega)⟩

theorem test_witness_EncodeIsIdentityWithoutCipher :
    ({ base with encEn := false, txPlen := 120 }.txPlen.toNat ≤ 120 ∧ { base with encEn := false }.encEn = false) ∧
    ({ base with txType := 0x04 }.txPlen.toNat ≤ 120 ∧
      ∃ k, k < 4 ∧ { base with txType := 0x04 }.txType = base.cfgPtype.extractLsb' (8 * k) 8) :=
  ⟨by decide, by decide, 3, by decide, by decide⟩

/-- What DECODE answers with a result, as a next state with that result. -/
theorem decode_answers {s : State} {r : Result} (h : (next? (exec .decode s)).map State.result = some r) :
    ∃ t, exec .decode s = .next t ∧ t.result = r := by
  obtain ⟨t, ht⟩ := exec_next .decode s
  rw [ht] at h
  exact ⟨t, ht, Option.some.inj h⟩

theorem test_witness_AcceptedFramesAreExact :
    (∃ t, exec .decode (received keyed 28 enc2) = .next t ∧ t.result = .ok) ∧
    (received base 22 enc1).flen.toNat = 22 ∧ ∃ t, exec .decode (received base 22 enc1) = .next t :=
  ⟨decode_answers (by decide +kernel), by decide, exec_next _ _⟩

/-- DEC-10: the frame ENC-2 and the same frame with a zero byte after it. -/
theorem test_witness_TrailingZeroByteIsBadLength :
    (∃ t, exec .decode (received keyed 28 enc2) = .next t ∧ t.result = .ok) ∧
    (received keyed 29 (enc2 * 256)).flen.toNat = (received keyed 28 enc2).flen.toNat + 1 ∧
    (received keyed 29 (enc2 * 256)).cfgMagic = (received keyed 28 enc2).cfgMagic ∧
    (∀ k, k < (received keyed 28 enc2).flen.toNat →
      (received keyed 29 (enc2 * 256)).byteAt (0x100 + k) = (received keyed 28 enc2).byteAt (0x100 + k)) ∧
    (received keyed 29 (enc2 * 256)).byteAt (0x100 + (received keyed 28 enc2).flen.toNat) = 0 :=
  ⟨decode_answers (by decide +kernel), by decide +kernel, by decide +kernel, by decide +kernel, by decide +kernel⟩

theorem test_witness_KeystreamIsBlockwise : (16 : Nat) < 17 ∧ (17 : Nat) ≤ 120 := by decide

theorem test_witness_KeyLoadCommitsTheStagedKey : ∃ t, exec .keyLoad base = .next t := exec_next _ _

theorem test_witness_KeyClearErasesTheKey : { keyed with txPlen := 120 }.txPlen.toNat ≤ 120 := by decide

theorem test_witness_CtrPbufAppliesTheKeystream :
    ({ keyed with txPlen := 120 }.txPlen.toNat ≤ 120 ∧ { keyed with txPlen := 120 }.keyValid = true) ∧
    120 < { base with txPlen := 121 }.txPlen.toNat ∧ (base.txPlen.toNat ≤ 120 ∧ base.keyValid = false) := by decide

theorem test_witness_CtrPbufIsAnInvolution :
    { keyed with txPlen := 120 }.txPlen.toNat ≤ 120 ∧ { keyed with txPlen := 120 }.keyValid = true := by decide

theorem test_witness_AesBlockEnciphersTheBlock : keyed.keyValid = true ∧ base.keyValid = false := by decide

/-- The keyed state with counter block 7, the last a payload can use, of its own nonce and counter in BLK. -/
def counterSeven : State := { keyed with txCtr := 1, blk2 := 1, blk3 := 7 }

/-- Byte 7 of block 7 is the last keystream byte. -/
theorem test_witness_AesBlockYieldsAKeystreamBlock : 7 < 8 ∧ counterSeven.keyValid = true ∧
    counterSeven.blk0 = counterSeven.txNonceHi ∧ counterSeven.blk1 = counterSeven.txNonceLo ∧
    counterSeven.blk2 = counterSeven.txCtr ∧ counterSeven.blk3 = BitVec.ofNat 32 7 ∧ 7 < 16 ∧ 16 * 7 + 7 < 120 := by
  decide

/-! The host's accesses. `P_BASE` has no value, so these go through `hostRead_listed` and `hostWrite_listed`. -/

theorem test_witness_KeyIsNeverReadable :
    ∃ t, (keyed.issue 0x10).hostRead (Config.pBase + 0x080) 4 = .next t :=
  ⟨_, hostRead_listed _ (r := .key0) (by decide) (by decide) (by decide)⟩

theorem test_witness_WrongWidthOrAlignmentFaults :
    (0x3FC < 0x400 ∧ (2 ≠ 4 ∨ 0x3FC % 4 ≠ 0)) ∧ (0x3FF < 0x400 ∧ (4 ≠ 4 ∨ 0x3FF % 4 ≠ 0)) := by decide

/-- The offsets on both sides of the last buffer word. -/
theorem test_witness_ExactlyTheUnlistedOffsetsFault :
    (0x274 < 0x400 ∧ 0x274 % 4 = 0 ∧ regAt 0x274 = some (.pbufWord 29)) ∧
    (0x278 < 0x400 ∧ 0x278 % 4 = 0 ∧ regAt 0x278 = none) ∧ (0x018 % 4 = 0 ∧ regAt 0x018 = none) := by decide

theorem test_witness_ReadOnlyAndWriteOnlyRegisters : base.eng = .idle := rfl

theorem test_witness_RegistersReadBackTheirDefinedBits : base.eng = .idle := rfl

theorem test_witness_IdleReadsReturnTheRegister : base.eng = .idle ∧
    ∀ o ∈ [0x100, 0x18C, 0x200, 0x274], o % 4 = 0 ∧ (0x100 ≤ o ∧ o ≤ 0x18C ∨ 0x200 ≤ o ∧ o ≤ 0x274) := by decide

theorem test_witness_BufferWordsAreBigEndian : base.eng = .idle ∧
    (0x100 % 4 = 0 ∧ 0x100 ≤ 0x100 ∧ 0x100 ≤ 0x18C) ∧ (0x18C % 4 = 0 ∧ 0x100 ≤ 0x18C ∧ 0x18C ≤ 0x18C) ∧
    (0x200 % 4 = 0 ∧ 0x200 ≤ 0x200 ∧ 0x200 ≤ 0x274) ∧ (0x274 % 4 = 0 ∧ 0x200 ≤ 0x274 ∧ 0x274 ≤ 0x274) := by decide

/-- Every result code is some state's. -/
theorem test_witness_StatusBitsAndW1C : ∀ r ∈ [Result.ok, .illegalCmd, .badArg, .tooLong, .keyErr, .badLength,
    .badMagic, .badChecksum], (base.finish r).result = r := by decide

theorem test_witness_CtrlBits : base.eng = .idle ∧ (0x00000007 : Word).getLsbD 3 = false := by decide

/-- Completion with IRQ_EN = 1 raises `irq`; so does a CTRL write that sets IRQ_EN while DONE = 1. -/
theorem test_witness_IrqFollowsDoneAndEnable : (base.issue 0x00).eng = .busy 0x00 ∧
    (0x00000002 : Word).getLsbD 1 = true ∧ base.eng = .idle ∧ (0x00000002 : Word).getLsbD 3 = false ∧
    (∃ t, step { base.issue 0x00 with irqEn := true } = .next t ∧
      ({ base.issue 0x00 with irqEn := true } : State).irq = false ∧ t.irq = true) ∧
    (∃ t, step { base.finish .ok with inputs := [.write (Config.pBase + 0x004) 4 2] } = .next t ∧
      (base.finish .ok).irq = false ∧ t.irq = true) :=
  ⟨rfl, by decide, rfl, by decide, ⟨_, rfl, rfl, rfl⟩,
    ⟨_, hostWrite_listed _ (r := .ctrl) 2 (by decide) (by decide) (by decide) rfl, rfl, rfl⟩⟩

/-- Every range at one of its ends. -/
theorem test_witness_BusyWritesAreIgnored : (base.issue 0x10).eng = .busy 0x10 ∧
    (0x004 % 4 = 0 ∧ (0x00000001 : Word).getLsbD 3 = false) ∧
    (∀ o ∈ [0x00C, 0x014, 0x020, 0x038, 0x070, 0x078, 0x080, 0x09C, 0x100, 0x18C, 0x200, 0x274],
      o % 4 = 0 ∧ (regAt o).isSome) := by decide

theorem test_witness_BusyReadsAreFree : (base.issue 0x10).eng = .busy 0x10 ∧
    (∀ o ∈ [0x000, 0x004, 0x008, 0x00C, 0x014, 0x020, 0x038, 0x040, 0x060, 0x070, 0x078, 0x080, 0x09C, 0x100, 0x18C,
      0x200, 0x274], o % 4 = 0 ∧ (regAt o).isSome) := by decide

/-- A read of FBUF while busy raises HAZ, and a STATUS write of 4 clears it. -/
theorem test_witness_HazIsStickyAndOnlyForBusyAccesses :
    (∃ t, step { base.issue 0x10 with inputs := [.read (Config.pBase + 0x100) 4] } = .next t ∧
      base.haz = false ∧ t.haz = true) ∧
    (∃ t, step { base.flagHazard with inputs := [.write (Config.pBase + 0x008) 4 4] } = .next t ∧
      base.flagHazard.haz = true ∧ t.haz = false) :=
  ⟨⟨_, hostRead_listed _ (r := .fbufWord 0) (by decide) (by decide) (by decide), rfl, rfl⟩,
    ⟨_, hostWrite_listed _ (r := .status) 4 (by decide) (by decide) (by decide) rfl, rfl, rfl⟩⟩

theorem test_witness_KeyChangesOnlyByKeyCommandsAndReset :
    (∃ t, step (base.issue 0x20) = .next t ∧ t.keyValid ≠ base.keyValid) ∧
    (∃ t, step { keyed with inputs := [.rst] } = .next t ∧ t.key ≠ keyed.key) :=
  ⟨⟨_, rfl, by decide⟩, ⟨_, rfl, by decide⟩⟩

/-- The byte 0x100, overwritten by an idle host write, and by the completion of ENCODE. -/
theorem test_witness_BufferBytesChangeOnlyAsRuled :
    (∃ t, step { (base.store 0x100 [0xFF]) with inputs := [.write (Config.pBase + 0x100) 4 0] } = .next t ∧
      t.byteAt 0x100 ≠ (base.store 0x100 [0xFF]).byteAt 0x100) ∧
    (∃ t, step (((hello keyed).store 0x100 [0xFF]).issue 0x10) = .next t ∧
      t.byteAt 0x100 ≠ ((hello keyed).store 0x100 [0xFF]).byteAt 0x100) :=
  ⟨⟨_, hostWrite_listed _ (r := .fbufWord 0) 0 (by decide) (by decide) (by decide) rfl, by decide +kernel⟩,
    ⟨_, rfl, by decide +kernel⟩⟩

/-- A busy state with a refused write still to come. -/
def waiting : State := { base.issue 0x10 with inputs := [.write (Config.pBase + 0x010) 4 7] }

theorem waiting_plain : ∀ e ∈ waiting.inputs, e.isPlainAccess = true := by
  intro e he
  have : e = .write (Config.pBase + 0x010) 4 7 := by simpa [waiting] using he
  subst this
  simp [Event.isPlainAccess, Event.isSoftReset]

theorem run_one {s t : State} (h : step s = .next t) : Host.Core.run Sys2Proof.core 1 s = .next t := by
  simp only [Host.Core.run]
  rw [show Sys2Proof.core.step = step from rfl, h]

theorem test_witness_LatencyDoesNotMatter : waiting.eng = .busy 0x10 ∧
    (∀ e ∈ waiting.inputs, e.isPlainAccess = true) ∧
    ∃ t, Host.Core.run Sys2Proof.core waiting.inputs.length waiting = .next t := by
  refine ⟨rfl, waiting_plain, ?_⟩
  have h : step waiting = .next _ := hostWrite_listed _ (r := .flen) 7 (by decide) (by decide) (by decide) rfl
  exact ⟨_, run_one h⟩

theorem test_witness_IssuedCommandCompletes : waiting.eng = .busy 0x10 ∧
    (∀ e ∈ waiting.inputs, e ≠ .rst ∧ e.isSoftReset = false) := by
  refine ⟨rfl, fun e he => ?_⟩
  have : e = .write (Config.pBase + 0x010) 4 7 := by simpa [waiting] using he
  subst this
  simp [Event.isSoftReset]

theorem test_witness_ResetAtAnyTime : (0x00000008 : Word).getLsbD 3 = true ∧ keyed.resets = base.resets ∧
    (∃ t, step { base with inputs := [.rst] } = .next t) ∧ ∃ t, step { keyed with inputs := [.rst] } = .next t :=
  ⟨by decide, rfl, ⟨_, rfl⟩, ⟨_, rfl⟩⟩

theorem test_witness_StepKeepsInvariant : (received keyed 28 enc2).Inv ∧
    ((received keyed 28 enc2).issue 0x11).Inv ∧ ∃ t, step ((received keyed 28 enc2).issue 0x11) = .next t :=
  ⟨⟨by decide +kernel, by decide, by decide, by decide⟩, ⟨by decide +kernel, by decide, by decide, by decide⟩, ⟨_, rfl⟩⟩

end Sys2Proof.Tests
end

/-! PROOFS. The facts about host accesses and completions that the statements on the state (10_state.md) turn on: which
offset lists which register, what a read or write of one does, what a command's completion leaves. -/

namespace Sys2Proof.Machine

/-! ### The register map -/

/-- Every row of the table of R20 is an aligned offset of the window, and the offset lists that register. -/
theorem registerMap_listed {o : Nat} {r : Reg} (h : (o, r) ∈ registerMap) :
    o < 0x400 ∧ o % 4 = 0 ∧ regAt o = some r := by
  have hall : ∀ q ∈ registerMap, q.1 < 0x400 ∧ q.1 % 4 = 0 ∧ regAt q.1 = some q.2 := by decide
  exact hall _ h

/-- What an offset lists is a buffer word or a row of the table. -/
theorem regAt_cases {o : Nat} {r : Reg} (h : regAt o = some r) :
    (∃ k, r = .fbufWord k) ∨ (∃ k, r = .pbufWord k) ∨ (o, r) ∈ registerMap := by
  unfold regAt at h
  split at h
  · exact .inl ⟨_, (Option.some.inj h).symm⟩
  · split at h
    · exact .inr (.inl ⟨_, (Option.some.inj h).symm⟩)
    · obtain ⟨l₁, l₂, hl, -⟩ := List.lookup_eq_some_iff.1 h
      exact .inr (.inr (by simp [hl]))

/-- CTRL stands at offset 0x004 alone. -/
theorem regAt_ctrl {o : Nat} (h : regAt o = some .ctrl) : o = 0x004 := by
  simpa [registerMap] using regAt_cases h

/-- STATUS stands at offset 0x008 alone. -/
theorem regAt_status {o : Nat} (h : regAt o = some .status) : o = 0x008 := by
  simpa [registerMap] using regAt_cases h

/-- An aligned offset inside FBUF or PBUF lists a register that the host writes as the four bytes from that offset on, and
reads as their word (R40, R41, R66). -/
theorem regAt_buffer {o : Nat} (h4 : o % 4 = 0) (ho : 0x100 ≤ o ∧ o ≤ 0x18C ∨ 0x200 ≤ o ∧ o ≤ 0x274) :
    ∃ r, regAt o = some r ∧ r.readOnly = false ∧ (∀ s : State, s.regValue r = wordOfBytes (s.bytesAt o 4)) ∧
      ∀ (s : State) (v : Word), s.writeReg r v = s.store o (bytesOfWord v) := by
  obtain ⟨k, hk | hk⟩ : ∃ k, o = fbufBase + 4 * k ∧ k < 36 ∨ o = pbufBase + 4 * k ∧ k < 30 := by
    rcases ho with ho | ho
    · exact ⟨(o - 0x100) / 4, .inl (by simp only [fbufBase]; omega)⟩
    · exact ⟨(o - 0x200) / 4, .inr (by simp only [pbufBase]; omega)⟩
  · obtain ⟨rfl, hk⟩ := hk
    refine ⟨.fbufWord k, ?_, rfl, fun _ => rfl, fun _ _ => rfl⟩
    rw [regAt, if_pos (by simp only [Config.fbufBytes]; omega), Nat.add_sub_cancel_left,
      Nat.mul_div_cancel_left k (by decide)]
  · obtain ⟨rfl, hk⟩ := hk
    refine ⟨.pbufWord k, ?_, rfl, fun _ => rfl, fun _ _ => rfl⟩
    rw [regAt, if_neg (by simp only [fbufBase, pbufBase, Config.fbufBytes]; omega),
      if_pos (by simp only [Config.pbufBytes]; omega), Nat.add_sub_cancel_left, Nat.mul_div_cancel_left k (by decide)]

/-! ### Reads and writes of a listed register -/

@[simp] theorem State.answer_regValue (s : State) (a : Response) (r : Reg) :
    (s.answer a).regValue r = s.regValue r := by cases r <;> rfl

/-- A read of ID, CTRL or STATUS answers the current value, busy or not (R251). -/
theorem busRead_readable {r : Reg} (h : r.readableWhileBusy = true) (s : State) :
    s.busRead r = s.answer (.data (s.regValue r)) := by
  simp [State.busRead, h]

/-- A write that the busy rules allow takes effect, busy or not (R250). -/
theorem busWrite_writable {r : Reg} {v : Word} (h : writableWhileBusy r v = true) (s : State) :
    s.busWrite r v = (s.writeReg r v).answer .ack := by
  simp [State.busWrite, h]

/-- An idle read of a listed offset answers the register's value and changes nothing else (R20, R67). -/
theorem hostRead_idle {s : State} (h : s.eng = .idle) {o : Nat} {r : Reg} (ho : o < 0x400) (h4 : o % 4 = 0)
    (hr : regAt o = some r) : s.hostRead (Config.pBase + o) 4 = .next (s.answer (.data (s.regValue r))) := by
  rw [hostRead_listed s ho h4 hr, busRead_idle h]

/-- An idle write to a listed offset that is not read-only takes effect and is acknowledged (R20). -/
theorem hostWrite_idle {s : State} (h : s.eng = .idle) {o : Nat} {r : Reg} (v : Word) (ho : o < 0x400) (h4 : o % 4 = 0)
    (hr : regAt o = some r) (hw : r.readOnly = false) :
    s.hostWrite (Config.pBase + o) 4 v = .next ((s.writeReg r v).answer .ack) := by
  rw [hostWrite_listed s v ho h4 hr hw, busWrite_idle h]

/-- Everything a read of a listed register can do: draw a free word and set HAZ, when the busy rules forbid it; else
answer the value (R251). -/
theorem busRead_cases (s : State) (r : Reg) :
    (s.busy = true ∧ r.readableWhileBusy = false ∧
      s.busRead r = { s.flagHazard with draws := s.draws + 1 }.answer (.data (Config.busyReadDraw s.draws))) ∨
    ((s.busy = false ∨ r.readableWhileBusy = true) ∧ s.busRead r = s.answer (.data (s.regValue r))) := by
  unfold State.busRead
  split
  · rename_i h
    exact .inl ⟨by simp_all, by simp_all, rfl⟩
  · rename_i h
    exact .inr ⟨by cases hb : s.busy <;> simp_all, rfl⟩

/-- Everything a host write can do when it answers a next state: nothing, outside the window; set HAZ alone, when the busy
rules refuse it; a soft reset; else write its register, while idle or to STATUS (R62, R241, R250). -/
theorem hostWrite_effects {s t : State} {addr size : Nat} {v : Word} (h : s.hostWrite addr size v = .next t) :
    (windowOffset addr = none ∧ t = s.answer .none) ∨
    (size = 4 ∧ s.busy = true ∧ t = s.flagHazard.answer .ack) ∨
    ((Event.write addr size v).isSoftReset = true ∧ t = s.takeReset.answer .ack) ∨
    ∃ o r, addr = Config.pBase + o ∧ o < 0x400 ∧ o % 4 = 0 ∧ size = 4 ∧ regAt o = some r ∧ r.readOnly = false ∧
      (s.busy = false ∨ r = .status) ∧ (r = .ctrl → v.getLsbD 3 = false) ∧ t = (s.writeReg r v).answer .ack := by
  obtain hout | ⟨o, r, rfl, ho, h4, rfl, hr, hro, rfl⟩ := hostWrite_cases h
  · exact .inl hout
  by_cases hrefused : s.busy = true ∧ writableWhileBusy r v = false
  · exact .inr (.inl ⟨rfl, hrefused.1, by simp [State.busWrite, hrefused]⟩)
  have heffect : s.busWrite r v = (s.writeReg r v).answer .ack := by
    rw [State.busWrite, if_neg (by simpa using hrefused)]
  by_cases hreset : r = .ctrl ∧ v.getLsbD 3 = true
  · obtain ⟨rfl, hv⟩ := hreset
    obtain rfl := regAt_ctrl hr
    exact .inr (.inr (.inl ⟨by simp [Event.isSoftReset, hv], by rw [heffect, State.writeReg, if_pos hv]⟩))
  · refine .inr (.inr (.inr ⟨o, r, rfl, ho, h4, rfl, hr, hro, ?_, by simpa using hreset, heffect⟩))
    cases hb : s.busy with
    | false => exact .inl rfl
    | true => cases r <;> simp_all [writableWhileBusy]

/-! ### What a register write leaves of the hidden state -/

/-- Only a soft reset, of all register writes, changes KEY (R43). -/
theorem State.writeReg_key (s : State) {r : Reg} {v : Word} (h : r = .ctrl → v.getLsbD 3 = false) :
    (s.writeReg r v).key = s.key := by
  cases r with
  | ctrl => rw [State.writeReg, h rfl]; rfl
  | _ => rfl

/-- Only a soft reset, of all register writes, changes KEY_VALID (R43). -/
theorem State.writeReg_keyValid (s : State) {r : Reg} {v : Word} (h : r = .ctrl → v.getLsbD 3 = false) :
    (s.writeReg r v).keyValid = s.keyValid := by
  cases r with
  | ctrl => rw [State.writeReg, h rfl]; rfl
  | _ => rfl

/-- A STATUS write clears HAZ where bit 2 is 1 (R24). -/
@[simp] theorem State.writeReg_status_haz (s : State) (v : Word) :
    (s.writeReg .status v).haz = (s.haz && !v.getLsbD 2) := rfl

/-- Only a soft reset and a STATUS write, of all register writes, change HAZ (R24). -/
theorem State.writeReg_haz (s : State) {r : Reg} {v : Word} (h : r = .ctrl → v.getLsbD 3 = false) (hs : r ≠ .status) :
    (s.writeReg r v).haz = s.haz := by
  cases r with
  | ctrl => rw [State.writeReg, h rfl]; rfl
  | status => exact absurd rfl hs
  | _ => rfl

/-! ### What a command's completion is -/

/-- The next states of a command at `s`, by command: a failing one changes the completion fields alone, an OK one makes
the update of its rule. `exec_completion` ties it to `exec`. -/
inductive Completion (s : State) : Instr → State → Prop
  /-- A result other than OK (R10). -/
  | failed (i : Instr) (c : Result) (hc : c ≠ .ok) : Completion s i (s.finish c)
  /-- R190. -/
  | nop : Completion s .nop (s.finish .ok)
  /-- R102. -/
  | crcInit (v : Half) : Completion s .crcInit ({ s with crcVal := v }.finish .ok)
  /-- R103. -/
  | crcByte (d : Byte) (v : Half) : Completion s (.crcByte d) ({ s with crcVal := v }.finish .ok)
  /-- R104. -/
  | crcFbuf (o l : Nat) (v : Half) : Completion s (.crcFbuf o l) ({ s with crcVal := v }.finish .ok)
  /-- R105. -/
  | crcPbuf (o l : Nat) (v : Half) : Completion s (.crcPbuf o l) ({ s with crcVal := v }.finish .ok)
  /-- R120. -/
  | encode (hlen : s.txLen ≤ 120) : Completion s .encode (s.writeFrame.advanceCounter.finish .ok)
  /-- R130. -/
  | decode (hok : s.decodeCheck = .ok) : Completion s .decode (s.writeReceived.finish .ok)
  /-- R170. -/
  | keyLoad : Completion s .keyLoad ({ s with key := s.stagedKey, keyValid := true }.clearStaging.finish .ok)
  /-- R171. -/
  | keyClear : Completion s .keyClear ({ s with key := 0, keyValid := false }.clearStaging.finish .ok)
  /-- R172. -/
  | ctrPbuf (hlen : s.txLen ≤ 120) : Completion s .ctrPbuf ((s.store pbufBase s.ctrPayload).finish .ok)
  /-- R173. -/
  | aesBlock : Completion s .aesBlock ((s.writeBlock (aesEncrypt s.keyBytes s.blockBytes)).finish .ok)

/-- A CRC command over a buffer range fails with BAD_ARG or feeds the range (R104, R105). -/
theorem crcRange_completion {s t : State} {i : Instr} {p : Prop} [Decidable p] {v : Half}
    (hi : Completion s i ({ s with crcVal := v }.finish .ok))
    (h : (.next (if p then s.finish .badArg else { s with crcVal := v }.finish .ok) :
      Host.Outcome State Fault Refusal) = .next t) : Completion s i t := by
  obtain rfl := Host.Outcome.next.inj h
  split
  · exact .failed i .badArg (by decide)
  · exact hi

/-- Every command's meaning is one of the completions (R194). -/
theorem exec_completion {i : Instr} {s t : State} (h : exec i s = .next t) : Completion s i t := by
  cases i with
  | nop => obtain rfl := Host.Outcome.next.inj h; exact .nop
  | crcInit => obtain rfl := Host.Outcome.next.inj h; exact .crcInit _
  | crcByte d => obtain rfl := Host.Outcome.next.inj h; exact .crcByte d _
  | crcFbuf o l => exact crcRange_completion (.crcFbuf o l _) h
  | crcPbuf o l => exact crcRange_completion (.crcPbuf o l _) h
  | encode =>
    obtain ⟨-, rfl⟩ | ⟨-, -, rfl⟩ | ⟨hlen, -, rfl⟩ := execEncode_cases h
    · exact .failed _ _ (by decide)
    · exact .failed _ _ (by decide)
    · exact .encode hlen
  | decode =>
    obtain ⟨hok, rfl⟩ | ⟨hfail, rfl⟩ := execDecode_cases h
    · exact .decode hok
    · exact .failed _ _ hfail
  | keyLoad => obtain rfl := Host.Outcome.next.inj h; exact .keyLoad
  | keyClear => obtain rfl := Host.Outcome.next.inj h; exact .keyClear
  | ctrPbuf =>
    obtain ⟨-, rfl⟩ | ⟨-, -, rfl⟩ | ⟨hlen, -, rfl⟩ := execCtrPbuf_cases h
    · exact .failed _ _ (by decide)
    · exact .failed _ _ (by decide)
    · exact .ctrPbuf hlen
  | aesBlock =>
    obtain ⟨-, rfl⟩ | ⟨-, rfl⟩ := execAesBlock_cases h
    · exact .failed _ _ (by decide)
    · exact .aesBlock

/-- ENCODE's frame lies in FBUF[0 .. 23 + L) (R123). -/
theorem State.writeFrame_byteAt_out (s : State) {a : Nat} (h : a < fbufBase ∨ fbufBase + (23 + s.txLen) ≤ a) :
    s.writeFrame.byteAt a = s.byteAt a :=
  State.byteAt_store_out s fbufBase s.txFrame a (by rwa [State.txFrame_length])

/-- DECODE's payload lies in PBUF[0 .. L) (R132). -/
theorem State.writeReceived_byteAt_out (s : State) {a : Nat} (h : a < pbufBase ∨ pbufBase + s.rxLen ≤ a) :
    s.writeReceived.byteAt a = s.byteAt a :=
  State.byteAt_store_out s pbufBase s.rxPayload a (by rwa [State.rxPayload_length])

/-- CTR_PBUF's payload lies in PBUF[0 .. L) (R172). -/
theorem State.store_ctrPayload_byteAt_out (s : State) {a : Nat} (h : a < pbufBase ∨ pbufBase + s.txLen ≤ a) :
    (s.store pbufBase s.ctrPayload).byteAt a = s.byteAt a :=
  State.byteAt_store_out s pbufBase s.ctrPayload a (by rwa [State.ctrPayload_length])

@[simp] theorem State.withCrcVal_byteAt (s : State) (v : Half) (a : Nat) :
    ({ s with crcVal := v } : State).byteAt a = s.byteAt a := rfl

@[simp] theorem State.withKey_clearStaging_byteAt (s : State) (k : BitVec 128) (b : Bool) (a : Nat) :
    { s with key := k, keyValid := b }.clearStaging.byteAt a = s.byteAt a := rfl

@[simp] theorem State.writeBlock_byteAt (s : State) (bs : List Byte) (a : Nat) :
    (s.writeBlock bs).byteAt a = s.byteAt a := rfl

/-- Settles O8: each completion's update names the fields it writes, and its bytes lie in the range that it stores. -/
theorem commandsWriteOnlyTheirOutputs : Obligations.CommandsWriteOnlyTheirOutputs := by
  intro i s t h
  cases exec_completion h with
  | failed | nop => simp
  | crcInit | crcByte | crcFbuf | crcPbuf => simp
  | keyLoad | keyClear => simp
  | aesBlock => simp
  | encode => simpa using fun _ => s.writeFrame_byteAt_out
  | decode => simpa using fun _ => s.writeReceived_byteAt_out
  | ctrPbuf => simpa using fun _ => s.store_ctrPayload_byteAt_out

/-! ### What each agent's step does to KEY, KEY_VALID and HAZ -/

/-- The commands and the key (R43, R37): KEY_LOAD makes it valid, KEY_CLEAR erases it, every other leaves it. -/
theorem exec_key {i : Instr} {s t : State} (h : exec i s = .next t) :
    (t.keyValid = s.keyValid ∧ t.key = s.key) ∨ (i = .keyLoad ∧ t.keyValid = true) ∨
      (i = .keyClear ∧ t.keyValid = false ∧ t.key = 0) := by
  cases exec_completion h with
  | keyLoad => simp
  | keyClear => simp
  | _ => simp

/-- No command writes HAZ (R37). -/
theorem exec_haz {i : Instr} {s t : State} (h : exec i s = .next t) : t.haz = s.haz := by
  obtain ⟨⟨-, -, -, hhaz⟩, -⟩ := commandsWriteOnlyTheirOutputs i s t h
  exact hhaz

/-- The engine's turn leaves HAZ. -/
theorem engineTurn_haz {s t : State} (h : s.engineTurn = .next t) : t.haz = s.haz := by
  obtain ⟨-, rfl⟩ | ⟨w, i, -, -, hexec⟩ | ⟨w, e, -, -, rfl⟩ := engineTurn_cases h
  · rfl
  · exact exec_haz hexec
  · exact State.finish_haz s _

/-- The engine's turn changes the key only when it completes KEY_LOAD or KEY_CLEAR. -/
theorem engineTurn_key {s t : State} (h : s.engineTurn = .next t) :
    (t.keyValid = s.keyValid ∧ t.key = s.key) ∨ ∃ w, s.eng = .busy w ∧
      (decode w = .instr .keyLoad ∧ t.keyValid = true ∨
        decode w = .instr .keyClear ∧ t.keyValid = false ∧ t.key = 0) := by
  obtain ⟨-, rfl⟩ | ⟨w, i, hbusy, hdecode, hexec⟩ | ⟨w, e, -, -, rfl⟩ := engineTurn_cases h
  · exact .inl ⟨rfl, rfl⟩
  · obtain hkeep | ⟨rfl, hload⟩ | ⟨rfl, hclear⟩ := exec_key hexec
    · exact .inl hkeep
    · exact .inr ⟨w, hbusy, .inl ⟨hdecode, hload⟩⟩
    · exact .inr ⟨w, hbusy, .inr ⟨hdecode, hclear⟩⟩
  · exact .inl ⟨rfl, rfl⟩

/-- No host read changes the key. -/
theorem hostRead_key {s t : State} {addr size : Nat} (h : s.hostRead addr size = .next t) :
    t.keyValid = s.keyValid ∧ t.key = s.key := by
  obtain ⟨-, rfl⟩ | ⟨o, r, -, -, -, -, -, rfl⟩ := hostRead_cases h
  · exact ⟨rfl, rfl⟩
  · obtain ⟨-, -, hdraw⟩ | ⟨-, hvalue⟩ := busRead_cases s r
    · rw [hdraw]; exact ⟨rfl, rfl⟩
    · rw [hvalue]; exact ⟨rfl, rfl⟩

/-- A host write changes the key only as a soft reset, which erases it. -/
theorem hostWrite_key {s t : State} {addr size : Nat} {v : Word} (h : s.hostWrite addr size v = .next t) :
    (t.keyValid = s.keyValid ∧ t.key = s.key) ∨
      ((Event.write addr size v).isSoftReset = true ∧ t.keyValid = false ∧ t.key = 0) := by
  obtain ⟨-, rfl⟩ | ⟨-, -, rfl⟩ | ⟨hsoft, rfl⟩ | ⟨o, r, -, -, -, -, -, -, -, hctrl, rfl⟩ := hostWrite_effects h
  · exact .inl ⟨rfl, rfl⟩
  · exact .inl ⟨rfl, rfl⟩
  · exact .inr ⟨hsoft, rfl, rfl⟩
  · exact .inl ⟨s.writeReg_keyValid hctrl, s.writeReg_key hctrl⟩

/-- A host read leaves HAZ or, while busy, sets it (R251). -/
theorem hostRead_haz {s t : State} {addr size : Nat} (h : s.hostRead addr size = .next t) :
    t.haz = s.haz ∨ (size = 4 ∧ s.busy = true ∧ t.haz = true) := by
  obtain ⟨-, rfl⟩ | ⟨o, r, -, -, -, rfl, -, rfl⟩ := hostRead_cases h
  · exact .inl rfl
  · obtain ⟨hbusy, -, hdraw⟩ | ⟨-, hvalue⟩ := busRead_cases s r
    · exact .inr ⟨rfl, hbusy, by rw [hdraw]; rfl⟩
    · exact .inl (by rw [hvalue]; rfl)

/-- A host write leaves HAZ; or sets it, while busy (R250); or clears it, as a soft reset or at STATUS bit 2 (R24). -/
theorem hostWrite_haz {s t : State} {addr size : Nat} {v : Word} (h : s.hostWrite addr size v = .next t) :
    t.haz = s.haz ∨ (size = 4 ∧ s.busy = true ∧ t.haz = true) ∨
      (t.haz = false ∧ ((Event.write addr size v).isSoftReset = true ∨
        addr = Config.pBase + 0x008 ∧ size = 4 ∧ v.getLsbD 2 = true)) := by
  obtain ⟨-, rfl⟩ | ⟨h4, hbusy, rfl⟩ | ⟨hsoft, rfl⟩ | ⟨o, r, rfl, -, -, rfl, hr, -, -, hctrl, rfl⟩ :=
    hostWrite_effects h
  · exact .inl rfl
  · exact .inr (.inl ⟨h4, hbusy, rfl⟩)
  · exact .inr (.inr ⟨rfl, .inl hsoft⟩)
  · by_cases hstatus : r = .status
    · subst hstatus
      obtain rfl := regAt_status hr
      cases hbit : v.getLsbD 2 with
      | false => exact .inl (by rw [State.answer_haz, State.writeReg_status_haz, hbit, Bool.not_false, Bool.and_true])
      | true =>
        exact .inr (.inr ⟨by rw [State.answer_haz, State.writeReg_status_haz, hbit, Bool.not_true, Bool.and_false],
          .inr ⟨rfl, rfl, rfl⟩⟩)
    · exact .inl (s.writeReg_haz hctrl hstatus)

/-- What a step does to HAZ, by the agent whose step it is: only the host's accesses and a reset move it. -/
theorem step_haz {s t : State} (h : step s = .next t) :
    t.haz = s.haz ∨
    (t.haz = true ∧ s.busy = true ∧
      ∃ addr rest, s.inputs = .read addr 4 :: rest ∨ ∃ v, s.inputs = .write addr 4 v :: rest) ∨
    (t.haz = false ∧ ∃ e rest, s.inputs = e :: rest ∧
      (e = .rst ∨ e.isSoftReset = true ∨ ∃ v, e = .write (Config.pBase + 0x008) 4 v ∧ v.getLsbD 2 = true)) := by
  obtain ⟨-, hturn⟩ | ⟨e, rest, hin, ⟨addr, size, rfl, hread⟩ | ⟨addr, size, v, rfl, hwrite⟩ | ⟨rfl, rfl⟩ |
    ⟨rfl, hturn⟩⟩ := step_cases h
  · exact .inl (engineTurn_haz hturn)
  · obtain hkeep | ⟨rfl, hbusy, hset⟩ := hostRead_haz hread
    · exact .inl hkeep
    · exact .inr (.inl ⟨hset, hbusy, addr, rest, .inl hin⟩)
  · obtain hkeep | ⟨rfl, hbusy, hset⟩ | ⟨hclear, hsoft | ⟨rfl, rfl, hbit⟩⟩ := hostWrite_haz hwrite
    · exact .inl hkeep
    · exact .inr (.inl ⟨hset, hbusy, addr, rest, .inr ⟨v, hin⟩⟩)
    · exact .inr (.inr ⟨hclear, _, rest, hin, .inr (.inl hsoft)⟩)
    · exact .inr (.inr ⟨hclear, _, rest, hin, .inr (.inr ⟨v, rfl, hbit⟩)⟩)
  · exact .inr (.inr ⟨rfl, _, rest, hin, .inl rfl⟩)
  · have hkeep := engineTurn_haz hturn
    exact .inl hkeep

/-- Settles O51: a step that moves HAZ is one of the two kinds that `step_haz` names. -/
theorem hazIsStickyAndOnlyForBusyAccesses : Obligations.HazIsStickyAndOnlyForBusyAccesses := by
  intro s t h
  obtain hkeep | ⟨hset, hcause⟩ | ⟨hclear, hcause⟩ := step_haz h
  · simp +contextual [hkeep]
  · exact ⟨fun _ _ => hcause, by simp [hset]⟩
  · exact ⟨by simp [hclear], fun _ _ => hcause⟩

/-- Settles O52, by the agent whose step it is: the engine completing a key command, or a reset. -/
theorem keyChangesOnlyByKeyCommandsAndReset : Obligations.KeyChangesOnlyByKeyCommandsAndReset := by
  intro s t h hchange
  have hmoved : ¬ (t.keyValid = s.keyValid ∧ t.key = s.key) := fun ⟨hvalid, hkey⟩ =>
    hchange.elim (· hvalid) (· hkey)
  obtain ⟨hin, hturn⟩ | ⟨e, rest, hin, ⟨addr, size, rfl, hread⟩ | ⟨addr, size, v, rfl, hwrite⟩ | ⟨rfl, rfl⟩ |
    ⟨rfl, hturn⟩⟩ := step_cases h
  · obtain ⟨w, hbusy, hcommand⟩ := (engineTurn_key hturn).resolve_left hmoved
    exact .inl ⟨w, hbusy, .inl hin, hcommand⟩
  · exact absurd (hostRead_key hread) hmoved
  · obtain ⟨hsoft, herased⟩ := (hostWrite_key hwrite).resolve_left hmoved
    exact .inr ⟨_, rest, hin, .inr hsoft, herased⟩
  · exact .inr ⟨_, rest, hin, .inl rfl, rfl, rfl⟩
  · obtain ⟨w, hbusy, hcommand⟩ := (engineTurn_key hturn).resolve_left hmoved
    exact .inl ⟨w, hbusy, .inr ⟨rest, hin⟩, hcommand⟩

/-! ### Register values and buffer words -/

/-- Zeros above a vector below `2 ^ k` stay zeros when more bits are appended below it. -/
theorem toNat_append_lt {m n k : Nat} {x : BitVec m} (hx : x.toNat < 2 ^ k) (y : BitVec n) :
    (x ++ y).toNat < 2 ^ (k + n) := by
  rw [BitVec.toNat_append, Nat.shiftLeft_eq, Nat.pow_add]
  calc x.toNat * 2 ^ n ||| y.toNat
      = x.toNat * 2 ^ n + y.toNat := by rw [← Nat.shiftLeft_eq, Nat.shiftLeft_add_eq_or_of_lt y.isLt]
    _ < x.toNat * 2 ^ n + 2 ^ n := by have := y.isLt; omega
    _ = (x.toNat + 1) * 2 ^ n := by ring
    _ ≤ 2 ^ k * 2 ^ n := Nat.mul_le_mul_right _ hx

/-- A word cut to its low `n` bits, read back with zeros above them. -/
theorem setWidth_setWidth_word {n : Nat} (v : Word) :
    (v.setWidth n).setWidth 32 = BitVec.ofNat 32 (v.toNat % 2 ^ n) :=
  BitVec.eq_of_toNat_eq (by simp)

/-! #### CTRL and STATUS (R23, R24) -/

theorem State.ctrlWord_bits (s : State) :
    s.ctrlWord.getLsbD 0 = s.encEn ∧ s.ctrlWord.getLsbD 1 = s.irqEn ∧ s.ctrlWord.getLsbD 2 = s.autoinc := by
  simp only [State.ctrlWord, BitVec.getLsbD_append]
  simp

theorem State.ctrlWord_lt (s : State) : s.ctrlWord.toNat < 8 :=
  have hzero : (0#29).toNat < 2 ^ 0 := by decide
  toNat_append_lt (toNat_append_lt (toNat_append_lt hzero _) _) _

theorem State.statusWord_bits (s : State) :
    s.statusWord.getLsbD 0 = s.busy ∧ s.statusWord.getLsbD 1 = s.done ∧ s.statusWord.getLsbD 2 = s.haz ∧
      s.statusWord.getLsbD 3 = s.ctrWrap ∧ s.statusWord.getLsbD 8 = s.keyValid ∧ s.statusWord.getLsbD 9 = s.cipher := by
  simp only [State.statusWord, BitVec.getLsbD_append]
  simp

theorem State.statusWord_result (s : State) : s.statusWord.extractLsb' 4 4 = s.result.code := by
  unfold State.statusWord
  iterate 4 rw [BitVec.extractLsb'_append_eq_of_le (by decide)]
  exact BitVec.extractLsb'_append_eq_right

theorem State.statusWord_lt (s : State) : s.statusWord.toNat < 2 ^ 10 :=
  have hzero : (0#22).toNat < 2 ^ 0 := by decide
  toNat_append_lt (toNat_append_lt (toNat_append_lt (toNat_append_lt (toNat_append_lt (toNat_append_lt
    (toNat_append_lt hzero _) _) _) _) _) _) _

/-- STATUS.BUSY reads 1 exactly when a command is pending (R44). -/
theorem State.busy_iff (s : State) : s.busy = true ↔ s.eng ≠ .idle := by
  unfold State.busy
  split <;> simp_all

/-- Settles O47. -/
theorem ctrlBits : Obligations.CtrlBits := by
  intro s v
  have hr : regAt 0x004 = some .ctrl := rfl
  obtain ⟨hencEn, hirqEn, hautoinc⟩ := s.ctrlWord_bits
  refine ⟨⟨s.ctrlWord, ?_, hencEn, hirqEn, hautoinc, s.ctrlWord_lt⟩, fun hidle hbit => ?_⟩
  · rw [hostRead_listed s (by decide) (by decide) hr, busRead_readable rfl]
    rfl
  · rw [hostWrite_idle hidle v (by decide) (by decide) hr rfl, State.writeReg, hbit]
    rfl

/-- Settles O46: both accesses are ones that the busy rules allow (R250, R251). -/
theorem statusBitsAndW1C : Obligations.StatusBitsAndW1C := by
  intro s v
  have hr : regAt 0x008 = some .status := rfl
  obtain ⟨hbusy, hdone, hhaz, hwrap, hvalid, hcipher⟩ := s.statusWord_bits
  have hcode : ∀ p ∈ [(Result.ok, 0), (.illegalCmd, 1), (.badArg, 2), (.tooLong, 3), (.keyErr, 4), (.badLength, 5),
      (.badMagic, 6), (.badChecksum, 7)], p.1.code.toNat = p.2 := by decide
  constructor
  · refine ⟨s.statusWord, ?_, by rw [hbusy, s.busy_iff], hdone, hhaz, hwrap, fun p hp hresult => ?_, hvalid, hcipher,
      s.statusWord_lt⟩
    · rw [hostRead_listed s (by decide) (by decide) hr, busRead_readable rfl]
      rfl
    · rw [s.statusWord_result, hresult, hcode p hp]
  · rw [hostWrite_listed s v (by decide) (by decide) hr rfl, busWrite_writable rfl]
    rfl

/-! #### The data registers (R26-R36) -/

/-- How many bits of a written word a register reads back, for the registers that hold what the host writes: the key
staging registers read 0 (R35). -/
def Reg.readBackBits : Reg → Option Nat
  | .txCtr | .txNonceHi | .txNonceLo | .cfgPtype | .blk0 | .blk1 | .blk2 | .blk3 => some 32
  | .crcVal | .txSrc | .txDst | .cfgMagic => some 16
  | .flen | .txType | .txPlen | .cfgVersion => some 8
  | .key0 | .key1 | .key2 | .key3 => some 0
  | _ => none

/-- A register that holds what the host writes reads back the written word cut to its defined bits, and writing it issues
nothing. -/
theorem State.writeReg_readBack {r : Reg} {n : Nat} (h : r.readBackBits = some n) (s : State) (v : Word) :
    r.readOnly = false ∧ (s.writeReg r v).eng = s.eng ∧
      (s.writeReg r v).regValue r = BitVec.ofNat 32 (v.toNat % 2 ^ n) := by
  cases r with
  | txCtr | txNonceHi | txNonceLo | cfgPtype | blk0 | blk1 | blk2 | blk3 =>
    obtain rfl := Option.some.inj h
    exact ⟨rfl, rfl, (BitVec.setWidth_eq v).symm.trans (by simpa using @setWidth_setWidth_word 32 v)⟩
  | crcVal | txSrc | txDst | cfgMagic | flen | txType | txPlen | cfgVersion =>
    obtain rfl := Option.some.inj h
    exact ⟨rfl, rfl, setWidth_setWidth_word v⟩
  | key0 | key1 | key2 | key3 =>
    obtain rfl := Option.some.inj h
    exact ⟨rfl, rfl, by rw [Nat.pow_zero, Nat.mod_one]; rfl⟩
  | _ => cases h

/-- Settles O44: the rows of the statement are those of the register map that read back what the host writes. -/
theorem registersReadBackTheirDefinedBits : Obligations.RegistersReadBackTheirDefinedBits := by
  intro s v hidle p hp
  have hrows : p ∈ registerMap.filterMap fun q =>
      q.2.readBackBits.map fun n => (q.1, n, s.writeReg q.2 v) := hp
  obtain ⟨⟨o, r⟩, hq, hrow⟩ := List.mem_filterMap.1 hrows
  obtain ⟨n, hn, rfl⟩ := Option.map_eq_some_iff.1 hrow
  obtain ⟨ho, h4, hr⟩ := registerMap_listed hq
  obtain ⟨hro, heng, hback⟩ := State.writeReg_readBack hn s v
  have hidle' : ((s.writeReg r v).answer .ack).eng = .idle := heng.trans hidle
  have hread := hostRead_idle hidle' ho h4 hr
  rw [State.answer_regValue, hback] at hread
  exact ⟨_, hostWrite_idle hidle v ho h4 hr hro, rfl, hread⟩

/-! #### Buffer words (R40, R41, R66) -/

/-- A bus word at a buffer offset: its four bytes, the lowest in bits 31:24. -/
theorem State.wordOfBytes_bytesAt (s : State) (o : Nat) :
    wordOfBytes (s.bytesAt o 4) = s.byteAt o ++ s.byteAt (o + 1) ++ s.byteAt (o + 2) ++ s.byteAt (o + 3) :=
  wordOfBytes_four _ _ _ _

/-- Byte j of a stored word is its bits 31 − 8j : 24 − 8j. -/
theorem bytesOfWord_getElem (v : Word) {j : Nat} (h : j < 4) :
    (bytesOfWord v)[j]'(by simpa using h) = v.extractLsb' (24 - 8 * j) 8 := by
  simp only [bytesOfWord_eq]
  match j, h with
  | 0, _ | 1, _ | 2, _ | 3, _ => rfl

/-- Settles O60: the rows of the statement are those of the register map that are neither CTRL, STATUS nor write-only. -/
theorem idleReadsReturnTheRegister : Obligations.IdleReadsReturnTheRegister := by
  intro s hidle
  constructor
  · intro p hp
    have hrows : p ∈ (registerMap.filter fun q => q.2 ∉ [Reg.ctrl, .status, .cmd, .key0, .key1, .key2, .key3]).map
        fun q => (q.1, s.regValue q.2) := hp
    obtain ⟨⟨o, r⟩, hq, rfl⟩ := List.mem_map.1 hrows
    obtain ⟨ho, h4, hr⟩ := registerMap_listed (List.mem_of_mem_filter hq)
    exact hostRead_idle hidle ho h4 hr
  · intro o h4 ho
    obtain ⟨r, hr, -, hvalue, -⟩ := regAt_buffer h4 ho
    rw [hostRead_idle hidle (by omega) h4 hr, hvalue, s.wordOfBytes_bytesAt]
    rfl

/-- Settles O45: the write is a store of the word's four bytes at the word's own offset. -/
theorem bufferWordsAreBigEndian : Obligations.BufferWordsAreBigEndian := by
  intro s v o hidle h4 ho
  obtain ⟨r, hr, hro, hvalue, hwrite⟩ := regAt_buffer h4 ho
  have ho' : o < 0x400 := by omega
  refine ⟨(s.store o (bytesOfWord v)).answer .ack, ?_, rfl, fun j hj => ?_, fun a ha => ?_, ?_⟩
  · rw [hostWrite_idle hidle v ho' h4 hr hro, hwrite]
  · rw [State.answer_byteAt, State.byteAt_store_in s o _ j (by simpa using hj), bytesOfWord_getElem v hj]
  · rw [State.answer_byteAt, State.byteAt_store_out s o _ a (by simpa using ha)]
  · have hback : (s.store o (bytesOfWord v)).bytesAt o 4 = bytesOfWord v := State.bytesAt_store s o (bytesOfWord v)
    rw [hostRead_idle (by simpa using hidle) ho' h4 hr, State.answer_regValue, hvalue, hback, wordOfBytes_bytesOfWord]
    rfl

end Sys2Proof.Machine

/-! PROOFS. The facts about host accesses, buffer bytes and pending commands that the statements on the memory
(20_memory.md) turn on: which accesses raise BusError, which steps change a buffer byte, that every operation keeps the
invariant, and that a pending command computes the same whatever the host does before it completes. -/

namespace Sys2Proof.Machine

/-! ### Accesses that raise BusError -/

/-- A read inside the window is judged by its offset (R60). -/
theorem hostRead_base (s : State) {o : Nat} (ho : o < 0x400) (size : Nat) :
    s.hostRead (Config.pBase + o) size = s.readOffset (Config.pBase + o) o size := by
  rw [State.hostRead, windowOffset_base ho]

/-- A write inside the window is judged by its offset (R60). -/
theorem hostWrite_base (s : State) {o : Nat} (ho : o < 0x400) (size : Nat) (v : Word) :
    s.hostWrite (Config.pBase + o) size v = s.writeOffset (Config.pBase + o) o size v := by
  rw [State.hostWrite, windowOffset_base ho]

/-- A write to a read-only register raises BusError (R64). -/
theorem hostWrite_readOnly (s : State) {o : Nat} {r : Reg} (v : Word) (ho : o < 0x400) (h4 : o % 4 = 0)
    (hr : regAt o = some r) (hro : r.readOnly = true) :
    s.hostWrite (Config.pBase + o) 4 v = .fault (.busError (Config.pBase + o)) := by
  simp [hostWrite_base s ho, State.writeOffset, aligned32, h4, hr, hro]

/-- Settles O41: such an access is not one that R61 allows. -/
theorem wrongWidthOrAlignmentFaults : Obligations.WrongWidthOrAlignmentFaults := by
  intro s o size v ho hbad
  have hna : ¬ aligned32 o size = true := by
    rw [aligned32_iff]
    omega
  rw [hostRead_base s ho, hostWrite_base s ho, State.readOffset, State.writeOffset, if_neg hna, if_neg hna]
  exact ⟨rfl, rfl⟩

/-- The rows of the table of R20 that are no buffer word, as ranges of offsets. -/
theorem registerMap_lookup_isSome_iff {o : Nat} (h4 : o % 4 = 0) :
    (registerMap.lookup o).isSome = true ↔ o ≤ 0x014 ∨ (0x020 ≤ o ∧ o ≤ 0x038) ∨ (0x040 ≤ o ∧ o ≤ 0x060) ∨
      (0x070 ≤ o ∧ o ≤ 0x078) ∨ (0x080 ≤ o ∧ o ≤ 0x09C) := by
  by_cases hlow : o < 0xA0
  · have hall : ∀ k < 40, (registerMap.lookup (4 * k)).isSome = true ↔ 4 * k ≤ 0x014 ∨ (0x020 ≤ 4 * k ∧ 4 * k ≤ 0x038) ∨
        (0x040 ≤ 4 * k ∧ 4 * k ≤ 0x060) ∨ (0x070 ≤ 4 * k ∧ 4 * k ≤ 0x078) ∨ (0x080 ≤ 4 * k ∧ 4 * k ≤ 0x09C) := by decide
    have ho : 4 * (o / 4) = o := by omega
    simpa only [ho] using hall (o / 4) (by omega)
  · have hkeys : ∀ q ∈ registerMap, q.1 < 0xA0 := by decide
    have hnone : registerMap.lookup o = none := by
      rw [List.lookup_eq_none_iff]
      intro q hq
      have := hkeys q hq
      simp only [bne_iff_ne, ne_eq]
      omega
    simp only [hnone, Option.isSome_none, Bool.false_eq_true, false_iff]
    omega

/-- What the window lists (R20), as ranges of offsets: an access outside them is to an unlisted offset (R62). -/
theorem regAt_isSome_iff {o : Nat} (h4 : o % 4 = 0) :
    (regAt o).isSome = true ↔ o ≤ 0x014 ∨ (0x020 ≤ o ∧ o ≤ 0x038) ∨ (0x040 ≤ o ∧ o ≤ 0x060) ∨
      (0x070 ≤ o ∧ o ≤ 0x078) ∨ (0x080 ≤ o ∧ o ≤ 0x09C) ∨ (0x100 ≤ o ∧ o ≤ 0x18C) ∨ (0x200 ≤ o ∧ o ≤ 0x274) := by
  by_cases hbuf : 0x100 ≤ o ∧ o ≤ 0x18C ∨ 0x200 ≤ o ∧ o ≤ 0x274
  · obtain ⟨r, hr, -⟩ := regAt_buffer h4 hbuf
    simp only [hr, Option.isSome_some, true_iff]
    omega
  · have hmap : regAt o = registerMap.lookup o := by
      simp only [regAt, fbufBase, pbufBase, Config.fbufBytes, Config.pbufBytes]
      rw [if_neg (by omega), if_neg (by omega)]
    rw [hmap, registerMap_lookup_isSome_iff h4]
    omega

/-- Settles O42: the ranges of the statement are the offsets that `regAt` lists. -/
theorem exactlyTheUnlistedOffsetsFault : Obligations.ExactlyTheUnlistedOffsetsFault := by
  intro s o v ho h4
  split
  · rename_i hlisted
    obtain ⟨r, hr⟩ := Option.isSome_iff_exists.1 ((regAt_isSome_iff h4).2 hlisted)
    exact ⟨_, hostRead_listed s ho h4 hr⟩
  · rename_i hunlisted
    have hr : regAt o = none := by
      rwa [← regAt_isSome_iff h4, Bool.not_eq_true, Option.isSome_eq_false_iff, Option.isNone_iff_eq_none] at hunlisted
    constructor
    · simp [hostRead_base s ho, State.readOffset, hr]
    · simp [hostWrite_base s ho, State.writeOffset, hr]

/-- Settles O43: the rows of the statement are the read-only rows of the register map and its write-only rows. -/
theorem readOnlyAndWriteOnlyRegisters : Obligations.ReadOnlyAndWriteOnlyRegisters := by
  intro s v
  refine ⟨fun o ho => ?_, fun hidle o ho => ?_, ?_⟩
  · have hrows : o ∈ (registerMap.filter fun q => q.2.readOnly).map Prod.fst := ho
    obtain ⟨⟨_, r⟩, hq, rfl⟩ := List.mem_map.1 hrows
    obtain ⟨hmem, hro⟩ := List.mem_filter.1 hq
    obtain ⟨hlt, h4, hr⟩ := registerMap_listed hmem
    exact hostWrite_readOnly s v hlt h4 hr hro
  · have hrows : o ∈ (registerMap.filter fun q => q.2 ∈ [Reg.cmd, .key0, .key1, .key2, .key3]).map Prod.fst := ho
    obtain ⟨⟨_, r⟩, hq, rfl⟩ := List.mem_map.1 hrows
    obtain ⟨hmem, hwo⟩ := List.mem_filter.1 hq
    obtain ⟨hlt, h4, hr⟩ := registerMap_listed hmem
    have hzero : s.regValue r = 0 := by
      simp only [List.mem_cons, List.not_mem_nil, or_false, decide_eq_true_eq] at hwo
      obtain rfl | rfl | rfl | rfl | rfl := hwo <;> rfl
    rw [hostRead_idle hidle hlt h4 hr, hzero]
    rfl
  · exact ⟨_, hostWrite_listed s v (by decide) (by decide) (r := .status) rfl rfl⟩

/-! ### What a register write does to the buffers and to the engine -/

/-- A register write other than a soft reset stores the four bytes of a buffer word, or leaves the buffers. -/
theorem State.writeReg_buffers (s : State) {o : Nat} {r : Reg} {v : Word} (h4 : o % 4 = 0) (hr : regAt o = some r)
    (hctrl : r = .ctrl → v.getLsbD 3 = false) :
    ((0x100 ≤ o ∧ o ≤ 0x18C ∨ 0x200 ≤ o ∧ o ≤ 0x274) ∧ s.writeReg r v = s.store o (bytesOfWord v)) ∨
      ((s.writeReg r v).mem = s.mem ∧ (s.writeReg r v).resets = s.resets) := by
  cases r with
  | ctrl => exact .inr (by rw [State.writeReg, hctrl rfl]; exact ⟨rfl, rfl⟩)
  | fbufWord k =>
    obtain ⟨rfl, hk⟩ := regAt_fbufWord h4 hr
    exact .inl ⟨by omega, rfl⟩
  | pbufWord k =>
    obtain ⟨rfl, hk⟩ := regAt_pbufWord h4 hr
    exact .inl ⟨by omega, rfl⟩
  | _ => exact .inr ⟨rfl, rfl⟩

/-- Only a soft reset, of all register writes, changes RX_PLEN, which is read-only (R34). -/
theorem State.writeReg_rxPlen (s : State) {r : Reg} {v : Word} (h : r = .ctrl → v.getLsbD 3 = false) :
    (s.writeReg r v).rxPlen = s.rxPlen := by
  cases r with
  | ctrl => rw [State.writeReg, h rfl]; rfl
  | _ => rfl

/-- No register write makes DONE and BUSY 1 together: issue clears DONE (R191), and no other write raises either. -/
theorem State.writeReg_busy_not_done {s : State} (hs : s.busy = true → s.done = false) {r : Reg} {v : Word}
    (h : r = .ctrl → v.getLsbD 3 = false) (hbusy : (s.writeReg r v).busy = true) : (s.writeReg r v).done = false := by
  cases r with
  | ctrl => rw [State.writeReg, h rfl] at hbusy ⊢; exact hs hbusy
  | status => simp only [State.writeReg, State.clearW1C_done, hs hbusy, Bool.false_and]
  | cmd => rfl
  | _ => exact hs hbusy

/-! ### The invariant (R43, R69, R133, R191, R192) -/

/-- A register write other than a soft reset keeps the invariant. -/
theorem State.Inv.writeReg {s : State} (hs : s.Inv) {o : Nat} {r : Reg} {v : Word} (h4 : o % 4 = 0)
    (hr : regAt o = some r) (hctrl : r = .ctrl → v.getLsbD 3 = false) : (s.writeReg r v).Inv where
  mem_wf := by
    obtain ⟨hrange, hstore⟩ | ⟨hmem, -⟩ := s.writeReg_buffers h4 hr hctrl
    · rw [hstore, State.store_mem]
      refine Memory.wf_writeBytes _ _ _ (fun k hk => ?_) hs.mem_wf
      rw [bytesOfWord_length] at hk
      rw [inBuffers_iff]
      omega
    · rw [hmem]
      exact hs.mem_wf
  busy_not_done := State.writeReg_busy_not_done hs.busy_not_done hctrl
  key_erased := by
    rw [s.writeReg_keyValid hctrl, s.writeReg_key hctrl]
    exact hs.key_erased
  rx_bounded := by
    rw [s.writeReg_rxPlen hctrl]
    exact hs.rx_bounded

/-- The bus's answer is no part of the invariant. -/
theorem State.Inv.answer {s : State} (hs : s.Inv) (a : Response) : (s.answer a).Inv :=
  ⟨hs.mem_wf, hs.busy_not_done, hs.key_erased, hs.rx_bounded⟩

/-- Reset meets the invariant from any state (R240). -/
theorem State.takeReset_inv (s : State) : s.takeReset.Inv :=
  ⟨rfl, fun _ => rfl, fun _ => rfl, Nat.zero_le 120⟩

/-- A completion makes the engine idle, so what it sets DONE beside needs only the other clauses. -/
theorem State.finish_inv {s : State} (hmem : s.mem.wf = true) (hkey : s.keyValid = false → s.key = 0)
    (hrx : s.rxPlen.toNat ≤ 120) (c : Result) : (s.finish c).Inv where
  mem_wf := hmem
  busy_not_done := fun hbusy => absurd hbusy (by simp [State.busy])
  key_erased := hkey
  rx_bounded := hrx

/-- A byte string of at most 144 bytes stored from FBUF[0] on keeps the canonical form. -/
theorem Memory.wf_writeBytes_fbuf {m : Memory} (h : m.wf = true) {bs : List Byte} (hlen : bs.length ≤ 144) :
    (m.writeBytes fbufBase bs).wf = true := by
  refine Memory.wf_writeBytes _ _ _ (fun k hk => ?_) h
  rw [inBuffers_iff]
  simp only [fbufBase]
  omega

/-- A byte string of at most 120 bytes stored from PBUF[0] on keeps the canonical form. -/
theorem Memory.wf_writeBytes_pbuf {m : Memory} (h : m.wf = true) {bs : List Byte} (hlen : bs.length ≤ 120) :
    (m.writeBytes pbufBase bs).wf = true := by
  refine Memory.wf_writeBytes _ _ _ (fun k hk => ?_) h
  rw [inBuffers_iff]
  simp only [pbufBase]
  omega

/-- Every command's completion keeps the invariant: what it stores fits its buffer, KEY_CLEAR erases the key, and DECODE
takes no payload longer than 120 bytes. -/
theorem State.Inv.exec {s t : State} {i : Instr} (hs : s.Inv) (h : exec i s = .next t) : t.Inv := by
  obtain ⟨hmem, -, hkey, hrx⟩ := hs
  cases exec_completion h with
  | encode hlen =>
    apply State.finish_inv
    · rw [State.advanceCounter_mem, State.writeFrame_mem]
      exact Memory.wf_writeBytes_fbuf hmem (by rw [State.txFrame_length]; omega)
    · simpa using hkey
    · simpa using hrx
  | decode hok =>
    obtain ⟨-, hlen, -⟩ := decodeCheck_ok hok
    apply State.finish_inv
    · exact Memory.wf_writeBytes_pbuf hmem (by rwa [State.rxPayload_length])
    · exact hkey
    · exact hlen
  | ctrPbuf hlen =>
    apply State.finish_inv
    · exact Memory.wf_writeBytes_pbuf hmem (by rwa [State.ctrPayload_length])
    · exact hkey
    · exact hrx
  | keyLoad =>
    apply State.finish_inv
    · exact hmem
    · exact fun hinvalid => absurd hinvalid (by simp)
    · exact hrx
  | keyClear =>
    apply State.finish_inv
    · exact hmem
    · exact fun _ => rfl
    · exact hrx
  | _ =>
    apply State.finish_inv
    · exact hmem
    · exact hkey
    · exact hrx

theorem State.Inv.engineTurn {s t : State} (hs : s.Inv) (h : s.engineTurn = .next t) : t.Inv := by
  obtain ⟨-, rfl⟩ | ⟨w, i, -, -, hexec⟩ | ⟨w, e, -, -, rfl⟩ := engineTurn_cases h
  · exact hs
  · exact hs.exec hexec
  · exact State.finish_inv hs.mem_wf hs.key_erased hs.rx_bounded _

theorem State.Inv.hostRead {s t : State} (hs : s.Inv) {addr size : Nat} (h : s.hostRead addr size = .next t) :
    t.Inv := by
  obtain ⟨-, rfl⟩ | ⟨o, r, -, -, -, -, -, rfl⟩ := hostRead_cases h
  · exact hs.answer _
  · obtain ⟨-, -, hdraw⟩ | ⟨-, hvalue⟩ := busRead_cases s r
    · rw [hdraw]
      exact ⟨hs.mem_wf, hs.busy_not_done, hs.key_erased, hs.rx_bounded⟩
    · rw [hvalue]
      exact hs.answer _

theorem State.Inv.hostWrite {s t : State} (hs : s.Inv) {addr size : Nat} {v : Word}
    (h : s.hostWrite addr size v = .next t) : t.Inv := by
  obtain ⟨-, rfl⟩ | ⟨-, -, rfl⟩ | ⟨-, rfl⟩ | ⟨o, r, -, -, h4, -, hr, -, -, hctrl, rfl⟩ := hostWrite_effects h
  · exact hs.answer _
  · exact ⟨hs.mem_wf, hs.busy_not_done, hs.key_erased, hs.rx_bounded⟩
  · exact s.takeReset_inv.answer _
  · exact (hs.writeReg h4 hr hctrl).answer _

/-- Settles O59, by the agent whose step it is: taking an event off the list leaves the invariant, and each agent keeps
it. -/
theorem stepKeepsInvariant : Obligations.StepKeepsInvariant := by
  intro s t hs h
  have htaken (rest : List Event) : ({ s with inputs := rest } : State).Inv :=
    ⟨hs.mem_wf, hs.busy_not_done, hs.key_erased, hs.rx_bounded⟩
  obtain ⟨-, hturn⟩ | ⟨e, rest, -, ⟨addr, size, -, hread⟩ | ⟨addr, size, v, -, hwrite⟩ | ⟨-, rfl⟩ |
    ⟨-, hturn⟩⟩ := step_cases h
  · exact hs.engineTurn hturn
  · exact (htaken rest).hostRead hread
  · exact (htaken rest).hostWrite hwrite
  · exact State.takeReset_inv _
  · exact (htaken rest).engineTurn hturn

/-! ### Which steps change a buffer byte (R69, R242, R250) -/

/-- Of all commands only ENCODE, inside FBUF[0..143), and DECODE and CTR_PBUF, inside PBUF[0..120), change a byte. -/
theorem exec_byteAt {i : Instr} {s t : State} {a : Nat} (h : exec i s = .next t) (hne : t.byteAt a ≠ s.byteAt a) :
    i = .encode ∧ 0x100 ≤ a ∧ a < 0x18F ∨ (i = .decode ∨ i = .ctrPbuf) ∧ 0x200 ≤ a ∧ a < 0x278 := by
  cases exec_completion h with
  | encode hlen =>
    refine .inl ⟨rfl, ?_⟩
    by_contra hout
    refine hne ?_
    rw [State.finish_byteAt, State.advanceCounter_byteAt, State.writeFrame_byteAt_out]
    simp only [fbufBase]
    omega
  | decode hok =>
    obtain ⟨-, hlen, -⟩ := decodeCheck_ok hok
    refine .inr ⟨.inl rfl, ?_⟩
    by_contra hout
    refine hne ?_
    rw [State.finish_byteAt, State.writeReceived_byteAt_out]
    simp only [pbufBase]
    omega
  | ctrPbuf hlen =>
    refine .inr ⟨.inr rfl, ?_⟩
    by_contra hout
    refine hne ?_
    rw [State.finish_byteAt, State.store_ctrPayload_byteAt_out]
    simp only [pbufBase]
    omega
  | _ => exact absurd rfl hne

/-- The engine's turn changes a byte only when it completes ENCODE, DECODE or CTR_PBUF. -/
theorem engineTurn_byteAt {s t : State} {a : Nat} (h : s.engineTurn = .next t) (hne : t.byteAt a ≠ s.byteAt a) :
    ∃ w, s.eng = .busy w ∧ (decode w = .instr .encode ∧ 0x100 ≤ a ∧ a < 0x18F ∨
      (decode w = .instr .decode ∨ decode w = .instr .ctrPbuf) ∧ 0x200 ≤ a ∧ a < 0x278) := by
  obtain ⟨-, rfl⟩ | ⟨w, i, hbusy, hdecode, hexec⟩ | ⟨w, e, -, -, rfl⟩ := engineTurn_cases h
  · exact absurd rfl hne
  · refine ⟨w, hbusy, ?_⟩
    obtain ⟨rfl, hrange⟩ | ⟨rfl | rfl, hrange⟩ := exec_byteAt hexec hne
    · exact .inl ⟨hdecode, hrange⟩
    · exact .inr ⟨.inl hdecode, hrange⟩
    · exact .inr ⟨.inr hdecode, hrange⟩
  · exact absurd rfl hne

/-- No host read changes a byte (R67). -/
theorem hostRead_byteAt {s t : State} {addr size : Nat} (h : s.hostRead addr size = .next t) (a : Nat) :
    t.byteAt a = s.byteAt a := by
  obtain ⟨-, rfl⟩ | ⟨o, r, -, -, -, -, -, rfl⟩ := hostRead_cases h
  · rfl
  · obtain ⟨-, -, hdraw⟩ | ⟨-, hvalue⟩ := busRead_cases s r
    · rw [hdraw]; rfl
    · rw [hvalue]; rfl

/-- A host write changes a byte only as a soft reset, or while idle and inside the buffer word that it writes. -/
theorem hostWrite_byteAt {s t : State} {addr size : Nat} {v : Word} {a : Nat} (h : s.hostWrite addr size v = .next t)
    (hne : t.byteAt a ≠ s.byteAt a) :
    (Event.write addr size v).isSoftReset = true ∨
      (s.eng = .idle ∧ ∃ o, addr = Config.pBase + o ∧ size = 4 ∧ o % 4 = 0 ∧ o ≤ a ∧ a < o + 4 ∧
        (0x100 ≤ a ∧ a < 0x190 ∨ 0x200 ≤ a ∧ a < 0x278)) := by
  obtain ⟨-, rfl⟩ | ⟨-, -, rfl⟩ | ⟨hsoft, -⟩ | ⟨o, r, haddr, -, h4, hsize, hr, -, hallowed, hctrl, rfl⟩ :=
    hostWrite_effects h
  · exact absurd rfl hne
  · exact absurd rfl hne
  · exact .inl hsoft
  rw [State.answer_byteAt] at hne
  obtain ⟨hrange, hstore⟩ | ⟨hmem, hresets⟩ := s.writeReg_buffers h4 hr hctrl
  · have hin : o ≤ a ∧ a < o + 4 := by
      by_contra hout
      refine hne ?_
      rw [hstore, State.byteAt_store_out]
      rw [bytesOfWord_length]
      omega
    have hidle : s.eng = .idle := by
      obtain hidle | rfl := hallowed
      · by_contra hbusy
        simp [s.busy_iff.2 hbusy] at hidle
      · have := regAt_status hr
        omega
    exact .inr ⟨hidle, o, haddr, hsize, h4, by omega⟩
  · exact absurd (State.byteAt_congr hmem hresets a) hne

/-- Settles O53, by the agent whose step it is. -/
theorem bufferBytesChangeOnlyAsRuled : Obligations.BufferBytesChangeOnlyAsRuled := by
  intro s t a h hne
  obtain ⟨hin, hturn⟩ | ⟨e, rest, hin, ⟨addr, size, rfl, hread⟩ | ⟨addr, size, v, rfl, hwrite⟩ | ⟨rfl, rfl⟩ |
    ⟨rfl, hturn⟩⟩ := step_cases h
  · obtain ⟨w, hbusy, hcommand⟩ := engineTurn_byteAt hturn hne
    exact .inr (.inr ⟨w, hbusy, .inl hin, hcommand⟩)
  · exact absurd (hostRead_byteAt hread a) hne
  · obtain hsoft | ⟨hidle, o, rfl, rfl, hword⟩ := hostWrite_byteAt hwrite hne
    · exact .inl ⟨_, rest, hin, .inr hsoft⟩
    · exact .inr (.inl ⟨hidle, o, v, rest, hin, hword⟩)
  · exact .inl ⟨_, rest, hin, .inl rfl⟩
  · obtain ⟨w, hbusy, hcommand⟩ := engineTurn_byteAt hturn hne
    exact .inr (.inr ⟨w, hbusy, .inr ⟨rest, hin⟩, hcommand⟩)

/-! ### A pending command and the accesses that come before it completes (R73) -/

/-- The fields that a host access other than a reset can change while a command is pending: the bus's answer, the W1C
bits of STATUS, and the free reads drawn. No command's operand is among them. -/
structure HostSide where
  /-- The bus's answer. -/
  resp : Response
  /-- STATUS.HAZ. -/
  haz : Bool
  /-- STATUS.DONE. -/
  done : Bool
  /-- STATUS.CTR_WRAP. -/
  ctrWrap : Bool
  /-- The free reads drawn. -/
  draws : Nat

/-- `s` with other host-side fields. -/
def State.withHostSide (s : State) (b : HostSide) : State :=
  { s with resp := b.resp, haz := b.haz, done := b.done, ctrWrap := b.ctrWrap, draws := b.draws }

/-- The host-side fields of `s`. -/
def State.hostSide (s : State) : HostSide := ⟨s.resp, s.haz, s.done, s.ctrWrap, s.draws⟩

/-- A host read changes host-side fields alone. -/
theorem hostRead_hostSide {s t : State} {addr size : Nat} (h : s.hostRead addr size = .next t) :
    ∃ b, t = s.withHostSide b := by
  refine ⟨t.hostSide, ?_⟩
  obtain ⟨-, rfl⟩ | ⟨o, r, -, -, -, -, -, rfl⟩ := hostRead_cases h
  · rfl
  · obtain ⟨-, -, hdraw⟩ | ⟨-, hvalue⟩ := busRead_cases s r
    · rw [hdraw]; rfl
    · rw [hvalue]; rfl

/-- While a command is pending, a host write that is no soft reset changes host-side fields alone: it is refused, or it
clears W1C bits of STATUS (R250). -/
theorem hostWrite_hostSide {s t : State} {addr size : Nat} {v : Word} (hbusy : s.busy = true)
    (hplain : (Event.write addr size v).isSoftReset = false) (h : s.hostWrite addr size v = .next t) :
    ∃ b, t = s.withHostSide b := by
  refine ⟨t.hostSide, ?_⟩
  obtain ⟨-, rfl⟩ | ⟨-, -, rfl⟩ | ⟨hsoft, -⟩ | ⟨o, r, -, -, -, -, -, -, hidle | rfl, -, rfl⟩ := hostWrite_effects h
  · rfl
  · rfl
  · rw [hplain] at hsoft
    contradiction
  · rw [hbusy] at hidle
    contradiction
  · rfl

/-- While a command is pending, a step that takes a host access other than a reset changes host-side fields alone. -/
theorem step_plainAccess {s t : State} {e : Event} {rest : List Event} (hbusy : s.busy = true)
    (hin : s.inputs = e :: rest) (hplain : e.isPlainAccess = true) (h : step s = .next t) :
    ∃ b, t = { s with inputs := rest }.withHostSide b := by
  rw [step, State.advance, hin] at h
  cases e with
  | read addr size => exact hostRead_hostSide h
  | write addr size v => exact hostWrite_hostSide hbusy (by simpa [Event.isPlainAccess] using hplain) h
  | rst => cases hplain
  | engine => cases hplain

/-- A run of one step more begins with a step. -/
theorem run_succ {k : Nat} {s t : State} (h : Host.Core.run Sys2Proof.core (k + 1) s = .next t) :
    ∃ u, step s = .next u ∧ Host.Core.run Sys2Proof.core k u = .next t := by
  simp only [Host.Core.run] at h
  split at h
  · exact ⟨_, ‹_›, h⟩
  · cases h
  · cases h

/-- While a command is pending, any number of host accesses other than a reset change host-side fields alone. -/
theorem run_plainAccesses {s t : State} (l : List Event) (hbusy : s.busy = true) (hin : s.inputs = l)
    (hplain : ∀ e ∈ l, e.isPlainAccess = true) (h : Host.Core.run Sys2Proof.core l.length s = .next t) :
    ∃ b, t = { s with inputs := [] }.withHostSide b := by
  induction l generalizing s with
  | nil =>
    obtain rfl := Host.Outcome.next.inj h
    exact ⟨s.hostSide, by rw [← hin]; rfl⟩
  | cons e rest ih =>
    obtain ⟨u, hstep, hrun⟩ := run_succ h
    obtain ⟨b, rfl⟩ := step_plainAccess hbusy hin (hplain e List.mem_cons_self) hstep
    exact ih (s := { s with inputs := rest }.withHostSide b) hbusy rfl
      (fun e' he' => hplain e' (List.mem_cons_of_mem e he')) hrun

/-! #### What the commands read and write beside the host-side fields -/

section

variable (s : State) (b : HostSide)

@[simp] theorem State.withHostSide_fbuf (i : Nat) : (s.withHostSide b).fbuf i = s.fbuf i := rfl

@[simp] theorem State.withHostSide_readFbuf (off len : Nat) :
    (s.withHostSide b).readFbuf off len = s.readFbuf off len := rfl

@[simp] theorem State.withHostSide_txLen : (s.withHostSide b).txLen = s.txLen := rfl

@[simp] theorem State.withHostSide_frameLen : (s.withHostSide b).frameLen = s.frameLen := rfl

@[simp] theorem State.withHostSide_cipherNeeded (t : Byte) : (s.withHostSide b).cipherNeeded t = s.cipherNeeded t := rfl

@[simp] theorem State.withHostSide_txHeader : (s.withHostSide b).txHeader = s.txHeader := rfl

@[simp] theorem State.withHostSide_ctrPayload : (s.withHostSide b).ctrPayload = s.ctrPayload := rfl

@[simp] theorem State.withHostSide_txPayload : (s.withHostSide b).txPayload = s.txPayload := rfl

@[simp] theorem State.withHostSide_txFrame : (s.withHostSide b).txFrame = s.txFrame := by
  simp [State.txFrame, State.txBody]

@[simp] theorem State.withHostSide_rxChecksum : (s.withHostSide b).rxChecksum = s.rxChecksum := by
  simp [State.rxChecksum]

@[simp] theorem State.withHostSide_decodeCheck : (s.withHostSide b).decodeCheck = s.decodeCheck := by
  simp only [State.decodeCheck, State.withHostSide_readFbuf, State.withHostSide_rxChecksum]
  rfl

@[simp] theorem State.withHostSide_rxPayload : (s.withHostSide b).rxPayload = s.rxPayload := rfl

@[simp] theorem State.withHostSide_writeFrame : (s.withHostSide b).writeFrame = s.writeFrame.withHostSide b := by
  simp only [State.writeFrame, State.withHostSide_txFrame, State.withHostSide_txLen, State.withHostSide_cipherNeeded]
  simp only [State.withHostSide]

@[simp] theorem State.withHostSide_writeReceived :
    (s.withHostSide b).writeReceived = s.writeReceived.withHostSide b := by
  simp only [State.writeReceived, State.withHostSide_rxPayload, State.withHostSide_fbuf, State.withHostSide_readFbuf,
    State.withHostSide_rxChecksum, State.withHostSide_cipherNeeded]
  simp only [State.withHostSide]

@[simp] theorem State.withHostSide_store (a : Nat) (bs : List Byte) :
    (s.withHostSide b).store a bs = (s.store a bs).withHostSide b := rfl

/-- The counter's step moves CTR_WRAP alone of the host-side fields (R125). -/
theorem State.withHostSide_advanceCounter :
    ∃ c, (s.withHostSide b).advanceCounter = s.advanceCounter.withHostSide c := by
  unfold State.advanceCounter
  by_cases h : s.autoinc = true
  · refine ⟨{ b with ctrWrap := b.ctrWrap || s.txCtr + 1 == 0 }, ?_⟩
    rw [if_pos h, if_pos (show (s.withHostSide b).autoinc = true from h)]
    rfl
  · refine ⟨b, ?_⟩
    rw [if_neg h, if_neg (show ¬ (s.withHostSide b).autoinc = true from h)]

end

/-- Two states alike but for the bus's answer, HAZ, CTR_WRAP and the free reads drawn (R73). -/
def State.LikeBesideBus (u v : State) : Prop :=
  u = { v with resp := u.resp, haz := u.haz, ctrWrap := u.ctrWrap, draws := u.draws }

theorem State.LikeBesideBus.ite {p : Prop} [Decidable p] {u v u' v' : State} (h : u.LikeBesideBus v)
    (h' : u'.LikeBesideBus v') : (if p then u else u').LikeBesideBus (if p then v else v') := by
  split
  · exact h
  · exact h'

/-- A command completes alike whatever the host-side fields hold: its completion sets DONE, ENCODE's counter step may
set CTR_WRAP, and the other fields are not its own. -/
theorem exec_withHostSide (i : Instr) (s : State) (b : HostSide) :
    ∃ u v, exec i (s.withHostSide b) = .next u ∧ exec i s = .next v ∧ u.LikeBesideBus v := by
  cases i with
  | nop | crcInit | crcByte | keyLoad | keyClear => exact ⟨_, _, rfl, rfl, rfl⟩
  | crcFbuf | crcPbuf | aesBlock => exact ⟨_, _, rfl, rfl, .ite rfl rfl⟩
  | encode =>
    refine ⟨_, _, rfl, rfl, .ite rfl (.ite rfl ?_)⟩
    obtain ⟨c, hc⟩ := s.writeFrame.withHostSide_advanceCounter b
    rw [State.withHostSide_writeFrame, hc]
    rfl
  | decode =>
    refine ⟨_, _, rfl, rfl, ?_⟩
    rw [State.withHostSide_decodeCheck, State.withHostSide_writeReceived]
    exact .ite rfl rfl
  | ctrPbuf =>
    refine ⟨_, _, rfl, rfl, .ite rfl (.ite rfl ?_)⟩
    rw [State.withHostSide_ctrPayload, State.withHostSide_store]
    rfl

/-- A pending word completes alike whatever the host-side fields hold. -/
theorem execute_withHostSide (s : State) (b : HostSide) (w : Word) :
    ∃ u v, (s.withHostSide b).execute w = .next u ∧ s.execute w = .next v ∧ u.LikeBesideBus v := by
  unfold State.execute
  cases decode w with
  | instr i => exact exec_withHostSide i s b
  | rejected e => exact ⟨_, _, rfl, rfl, rfl⟩

/-- With no event left, a step is the completion of the pending word. -/
theorem step_of_pending {s : State} {w : Word} (hin : s.inputs = []) (heng : s.eng = .busy w) :
    step s = s.execute w := by
  rw [step, State.advance, hin, State.engineTurn, heng]

/-- Settles O54: the accesses leave all but the host-side fields, which no command reads. -/
theorem latencyDoesNotMatter : Obligations.LatencyDoesNotMatter := by
  intro s t w heng hplain hrun
  have hbusy : s.busy = true := by
    rw [s.busy_iff, heng]
    simp
  obtain ⟨b, rfl⟩ := run_plainAccesses s.inputs hbusy rfl hplain hrun
  obtain ⟨u, v, hu, hv, hlike⟩ := execute_withHostSide { s with inputs := [] } b w
  refine ⟨rfl, u, v, Eq.trans ?_ hu, Eq.trans ?_ hv, hlike⟩
  · exact step_of_pending rfl heng
  · exact step_of_pending rfl heng

end Sys2Proof.Machine

/-! PROOFS. The facts about the command word that the statements on the encoding (30_encoding.md) turn on: a word with
RSV = 0 is the sum of its fields, the decoder reads back what the encoder wrote, and a row's command encodes to the
fields it was read from. -/

namespace Sys2Proof

/-! ### The command word and its fields -/

/-- Decoding a word built from fields that fit reads their row of R82. -/
theorem decode_commandWord {op a b : Nat} (ho : op < 256) (ha : a < 256) (hb : b < 256) :
    decode (commandWord op a b) = decodeRow op a b := by
  obtain ⟨hop, hA, hB, hrsv⟩ := commandWord_fields ho ha hb
  rw [decode, if_pos hrsv, hop, hA, hB]

theorem opField_lt (w : Word) : opField w < 256 := (w.extractLsb' 0 8).isLt

theorem aField_lt (w : Word) : aField w < 256 := (w.extractLsb' 8 8).isLt

theorem bField_lt (w : Word) : bField w < 256 := (w.extractLsb' 16 8).isLt

/-- A word with RSV = 0 is built from its other three fields (R80). -/
theorem commandWord_of_rsvField {w : Word} (h : rsvField w = 0) :
    commandWord (opField w) (aField w) (bField w) = w := by
  apply BitVec.eq_of_toNat_eq
  rw [commandWord_toNat (opField_lt w) (aField_lt w) (bField_lt w), word_eq_fields w, h]
  omega

/-! ### The rows of R82 -/

/-- A field that is marked 0 lets a command through exactly when it is 0. -/
theorem requireZero_eq_instr_iff {field : Nat} {row : Decoded} {i : Instr} :
    requireZero field row = .instr i ↔ field = 0 ∧ row = .instr i := by
  unfold requireZero
  split <;> simp_all

/-- A row without arguments answers its command exactly when both fields are 0. -/
theorem requireZeros_eq_instr_iff {a b : Nat} {i j : Instr} :
    requireZero a (requireZero b (.instr i)) = .instr j ↔ a = 0 ∧ b = 0 ∧ i = j := by
  simp only [requireZero_eq_instr_iff, Decoded.instr.injEq]

/-- What a row answers is well-formed and encodes to the fields it was read from. -/
theorem encode_of_decodeRow {op a b : Nat} {i : Instr} (ha : a < 256) (hb : b < 256)
    (h : decodeRow op a b = .instr i) : i.wellFormed = true ∧ encode i = commandWord op a b := by
  unfold decodeRow at h
  split at h
  case h_3 =>
    obtain ⟨rfl, hi⟩ := requireZero_eq_instr_iff.1 h
    cases hi
    exact ⟨rfl, by rw [encode, BitVec.toNat_ofNat, Nat.mod_eq_of_lt ha]⟩
  case h_4 | h_5 =>
    cases h
    exact ⟨by simp [Instr.wellFormed, fitsField, ha, hb], rfl⟩
  case h_12 => cases h
  all_goals
    obtain ⟨rfl, rfl, rfl⟩ := requireZeros_eq_instr_iff.1 h
    exact ⟨rfl, rfl⟩

/-- A row of R82 answers a command when the fields it marks 0 are 0. -/
theorem decodeRow_accepts {op a b : Nat} (hop : op ∈ Machine.definedOpcodes)
    (ha : op ∉ [0x02, 0x03, 0x04] → a = 0) (hb : op ∉ [0x03, 0x04] → b = 0) :
    ∃ i, decodeRow op a b = .instr i := by
  have hrows : ∀ o ∈ Machine.definedOpcodes, o = 0x02 ∨ o = 0x03 ∨ o = 0x04 ∨
      o ∈ [0x00, 0x01, 0x10, 0x11, 0x20, 0x21, 0x22, 0x23] := by decide
  obtain rfl | rfl | rfl | hnoArgs := hrows op hop
  · exact ⟨.crcByte (BitVec.ofNat 8 a), requireZero_eq_instr_iff.2 ⟨hb (by decide), rfl⟩⟩
  · exact ⟨.crcFbuf a b, rfl⟩
  · exact ⟨.crcPbuf a b, rfl⟩
  · simp only [List.mem_cons, List.not_mem_nil, or_false] at hnoArgs
    obtain rfl | rfl | rfl | rfl | rfl | rfl | rfl | rfl := hnoArgs
    all_goals exact ⟨_, requireZeros_eq_instr_iff.2 ⟨ha (by decide), hb (by decide), rfl⟩⟩

/-! ### Decoder and encoder -/

/-- The decoder reads back what the encoder wrote. -/
theorem decode_encode {i : Instr} (h : i.wellFormed = true) : decode (encode i) = .instr i := by
  cases i with
  | crcByte data =>
    rw [encode, decode_commandWord (by decide) data.isLt (by decide)]
    simp [decodeRow, requireZero]
  | crcFbuf off len | crcPbuf off len =>
    simp only [Instr.wellFormed, fitsField, Bool.and_eq_true, decide_eq_true_eq] at h
    exact decode_commandWord (by decide) h.1 h.2
  | _ => exact decode_commandWord (by decide) (by decide) (by decide)

/-- A word decodes to what its row answers, provided RSV = 0. -/
theorem decode_eq_instr_iff {w : Word} {i : Instr} :
    decode w = .instr i ↔ rsvField w = 0 ∧ decodeRow (opField w) (aField w) (bField w) = .instr i := by
  unfold decode
  split <;> simp_all

/-- Settles O1: a decoded word is built from its fields, and its command encodes to them. -/
theorem decodeInvertsEncode : Obligations.DecodeInvertsEncode := by
  intro w i
  constructor
  · intro h
    obtain ⟨hrsv, hrow⟩ := decode_eq_instr_iff.1 h
    obtain ⟨hwf, henc⟩ := encode_of_decodeRow (aField_lt w) (bField_lt w) hrow
    exact ⟨hwf, henc.trans (commandWord_of_rsvField hrsv)⟩
  · rintro ⟨hwf, rfl⟩
    exact decode_encode hwf

/-! ### Valid and invalid words -/

/-- The encoding of every well-formed command is a valid word (R81). -/
theorem validWord_encode : ∀ i : Instr, Laws.EncodesToValidWord.Statement i
  | .nop => Laws.EncodesToValidWord.nop
  | .crcInit => Laws.EncodesToValidWord.crcInit
  | .crcByte data => Laws.EncodesToValidWord.crcByte data
  | .crcFbuf off len => Laws.EncodesToValidWord.crcFbuf off len
  | .crcPbuf off len => Laws.EncodesToValidWord.crcPbuf off len
  | .encode => Laws.EncodesToValidWord.encode
  | .decode => Laws.EncodesToValidWord.decode
  | .keyLoad => Laws.EncodesToValidWord.keyLoad
  | .keyClear => Laws.EncodesToValidWord.keyClear
  | .ctrPbuf => Laws.EncodesToValidWord.ctrPbuf
  | .aesBlock => Laws.EncodesToValidWord.aesBlock

/-- The decoder accepts exactly the words that meet the three conditions of R81. -/
theorem decode_accepts_iff (w : Word) : (∃ i, decode w = .instr i) ↔ Machine.validWord w := by
  constructor
  · rintro ⟨i, h⟩
    obtain ⟨hwf, rfl⟩ := (decodeInvertsEncode w i).1 h
    exact validWord_encode i hwf
  · rintro ⟨hop, hrsv, ha, hb⟩
    obtain ⟨i, hi⟩ := decodeRow_accepts hop ha hb
    exact ⟨i, decode_eq_instr_iff.2 ⟨hrsv, hi⟩⟩

/-- The engine completes an invalid word with ILLEGAL_CMD and no other effect (R193). -/
theorem execute_invalid {w : Word} (h : ¬ Machine.validWord w) (s : Machine.State) :
    s.execute w = .next (s.finish .illegalCmd) := by
  unfold Machine.State.execute
  cases hd : decode w with
  | instr i => exact absurd ((decode_accepts_iff w).1 ⟨i, hd⟩) h
  | rejected e => rfl

/-- Settles O2: the idle CMD write issues the word, and the engine's turn finishes it with ILLEGAL_CMD. -/
theorem validityOfCommandWords : Obligations.ValidityOfCommandWords := by
  refine ⟨decode_accepts_iff, fun s w hinvalid hidle => ?_⟩
  obtain ⟨hwin, halign, hcmd⟩ := Machine.registerMap_listed (o := 0x00C) (r := .cmd) (by decide)
  exact ⟨(s.issue w).answer .ack, Machine.hostWrite_idle hidle w hwin halign hcmd rfl, rfl, execute_invalid hinvalid _⟩

/-- Settles O3: a valid word is the encoding of its command, and an invalid one is rejected on evaluation. -/
theorem specWordsDecode : Obligations.SpecWordsDecode :=
  ⟨decode_encode (i := .nop) rfl, decode_encode (i := .crcByte 0x31) rfl, decode_encode (i := .crcFbuf 0 26) rfl,
    decode_encode (i := .crcPbuf 0 9) rfl, decode_encode (i := .encode) rfl, decode_encode (i := .decode) rfl,
    decode_encode (i := .keyLoad) rfl, decode_encode (i := .ctrPbuf) rfl, by decide, by decide, by decide, by decide⟩

end Sys2Proof

/-! PROOFS. The facts that the statements on the checksum (40_crc.md) turn on: the bit-serial form of the shift register
and of the byte-wise checksum, its linearity over exclusive or, and what it does with an error pattern's parity and
position. -/

namespace Sys2Proof.Machine

/-! ### The bit-serial register -/

/-- One bit fed into the register: `c <- (c << 1) ⊕ (c[15] ⊕ bit ? 0x1021 : 0)` (R101, one bit at a time). -/
def crcFeedBit (c : Half) (b : Bool) : Half := (c <<< 1) ^^^ (if c.getLsbD 15 != b then 0x1021 else 0)

/-- A bit string fed into the register. -/
def crcBits (bs : List Bool) (c : Half) : Half := bs.foldl crcFeedBit c

@[simp] theorem crcBits_nil (c : Half) : crcBits [] c = c := rfl

@[simp] theorem crcBits_cons (b : Bool) (bs : List Bool) (c : Half) :
    crcBits (b :: bs) c = crcBits bs (crcFeedBit c b) := rfl

@[simp] theorem crcBits_append (bs ds : List Bool) (c : Half) : crcBits (bs ++ ds) c = crcBits ds (crcBits bs c) :=
  List.foldl_append

theorem crcFeedBit_zero_false : crcFeedBit 0 false = 0 := by decide

/-- A bit equal to the register's top bit shifts it out and adds no generator. -/
theorem crcFeedBit_topBit (c : Half) : crcFeedBit c (c.getLsbD 15) = c <<< 1 := by simp [crcFeedBit]

/-- Feeding any other bit sets the lowest bit, the generator's constant term. -/
theorem crcFeedBit_getLsbD_zero (c : Half) (b : Bool) : (crcFeedBit c b).getLsbD 0 = (c.getLsbD 15 != b) := by
  rw [crcFeedBit, BitVec.getLsbD_xor, BitVec.getLsbD_shiftLeft]
  cases c.getLsbD 15 != b <;> rfl

/-- Data added to the register before a shift is the data's top bit fed, and the data's other bits moved up. -/
theorem crcShift_xor_eq_crcFeedBit (c x : Half) : crcShift (c ^^^ x) = crcFeedBit c (x.getLsbD 15) ^^^ (x <<< 1) := by
  have hshift : crcShift (c ^^^ x) = (c ^^^ x) <<< 1 ^^^ (if (c ^^^ x).getLsbD 15 then 0x1021 else 0) := by
    rw [crcShift]
    split
    · rfl
    · exact (BitVec.xor_zero).symm
  rw [hshift, BitVec.getLsbD_xor, BitVec.shiftLeft_xor_distrib, crcFeedBit, BitVec.xor_assoc, BitVec.xor_assoc,
    BitVec.xor_comm (x <<< 1)]

/-- Data added to the register before `n` shifts is its top `n` bits fed one by one, and the rest moved up. -/
theorem crcShifts_xor_eq_crcBits (n : Nat) (c x : Half) :
    crcShifts n (c ^^^ x) = crcBits ((List.range n).map x.getMsbD) c ^^^ (x <<< n) := by
  induction n generalizing c x with
  | zero => simp [crcShifts]
  | succ n ih =>
    have hnext : (x <<< 1).getMsbD = x.getMsbD ∘ Nat.succ := by
      funext k
      simp [BitVec.getMsbD_shiftLeft]
    have htop : x.getMsbD 0 = x.getLsbD 15 := rfl
    rw [crcShifts, crcShift_xor_eq_crcFeedBit, ih, hnext, ← BitVec.shiftLeft_add, Nat.add_comm 1 n,
      List.range_succ_eq_map, List.map_cons, List.map_map, crcBits_cons, htop]

/-- The bits of a byte, most significant first. -/
def byteBits (b : Byte) : List Bool := [7, 6, 5, 4, 3, 2, 1, 0].map b.getLsbD

/-- `crc_step` is the byte's bits fed one by one. -/
theorem crcStep_eq_crcBits (c : Half) (b : Byte) : crcStep c b = crcBits (byteBits b) c := by
  have hbits : (List.range 8).map (b.setWidth 16 <<< 8).getMsbD = byteBits b := by
    simp [List.range, List.range.loop, byteBits, BitVec.getMsbD_eq_getLsbD]
  have hrest : (b.setWidth 16 <<< 8) <<< 8 = 0#16 := by
    rw [← BitVec.shiftLeft_add]
    exact BitVec.shiftLeft_eq_zero (by decide)
  rw [crcStep, crcShifts_xor_eq_crcBits, hbits, hrest, BitVec.xor_zero]

/-- Feeding the register its own top `n` bits moves the others up. -/
theorem crcBits_topBits (n : Nat) (c : Half) : crcBits ((List.range n).map c.getMsbD) c = c <<< n := by
  induction n with
  | zero => simp
  | succ n ih =>
    have htop : c.getMsbD n = (c <<< n).getLsbD 15 := by
      have := BitVec.getMsbD_shiftLeft (x := c) (i := n) (k := 0)
      simpa [BitVec.getMsbD_eq_getLsbD] using this.symm
    rw [List.range_succ, List.map_append, crcBits_append, ih, List.map_singleton, crcBits_cons, crcBits_nil, htop,
      crcFeedBit_topBit, BitVec.shiftLeft_add]

/-- Feeding the register its own high byte moves the low byte up (R106). -/
theorem crcStep_highByte (c : Half) : crcStep c (c.extractLsb' 8 8) = c <<< 8 := by
  have hbits : byteBits (c.extractLsb' 8 8) = (List.range 8).map c.getMsbD := by
    simp [List.range, List.range.loop, byteBits, BitVec.getMsbD_eq_getLsbD]
  rw [crcStep_eq_crcBits, hbits, crcBits_topBits]

/-! ### The four commands -/

/-- A byte string that agrees with the buffer at every place is what a read of the range returns. -/
theorem State.bytesAt_eq {s : State} {a len : Nat} {bytes : List Byte} (hlen : bytes.length = len)
    (hbytes : ∀ k, k < len → bytes[k]? = some (s.byteAt (a + k))) : s.bytesAt a len = bytes := by
  apply List.ext_getElem
  · rw [State.bytesAt_length, hlen]
  · intro k _ hk
    have hbyte := hbytes k (hlen ▸ hk)
    rw [List.getElem?_eq_getElem hk] at hbyte
    rw [State.bytesAt_getElem, Option.some.inj hbyte]

/-- A command that feeds a buffer range within `limit` and refuses any other: what it answers in terms of the bytes that
stand there (R104, R105). -/
theorem exec_crcRange {i : Instr} {s : State} {base limit off len : Nat}
    (h : exec i s = .next (if limit < off + len then s.finish .badArg
      else { s with crcVal := crc16 (s.bytesAt (base + off) len) s.crcVal }.finish .ok)) :
    (off + len ≤ limit → ∀ bytes : List Byte, bytes.length = len →
      (∀ k, k < len → bytes[k]? = some (s.byteAt (base + off + k))) →
      exec i s = .next { s with crcVal := crc16 bytes s.crcVal, result := .ok, done := true, eng := .idle }) ∧
    (limit < off + len → exec i s = .next { s with result := .badArg, done := true, eng := .idle }) := by
  rw [h]
  constructor
  · intro hfits bytes hlen hbytes
    rw [if_neg (Nat.not_lt.2 hfits), State.bytesAt_eq hlen hbytes]
    rfl
  · intro hleaves
    rw [if_pos hleaves]
    rfl

/-- Settles O10: the start value of R6 is 0xFFFF. -/
theorem crcInitSetsAllOnes : Obligations.CrcInitSetsAllOnes := fun _ => rfl

/-- Settles O11: one `crc_step` is eight bits fed. -/
theorem crcByteIsBitSerial : Obligations.CrcByteIsBitSerial := by
  intro data s
  have hexec : exec (.crcByte data) s = .next ({ s with crcVal := crcStep s.crcVal data }.finish .ok) := rfl
  rw [hexec, crcStep_eq_crcBits]
  rfl

/-- Settles O12: the range lies in FBUF, from window offset 0x100, when it ends at 144 or before. -/
theorem crcFbufFeedsTheRange : Obligations.CrcFbufFeedsTheRange := fun _ _ _ => exec_crcRange rfl

/-- Settles O13: the range lies in PBUF, from window offset 0x200, when it ends at 120 or before. -/
theorem crcPbufFeedsTheRange : Obligations.CrcPbufFeedsTheRange := fun _ _ _ => exec_crcRange rfl

/-! ### The checksum after its own bytes -/

/-- Settles O14: the high checksum byte moves the low one up, and the low one then moves everything out. -/
theorem crcResidueIsZero : Obligations.CrcResidueIsZero := by
  intro S
  have hbytes (c : Half) : be 2 c.toNat = [c.extractLsb' 8 8, c.extractLsb' 0 8] := bytesOfHalf_eq c
  have hlow (c : Half) : c.extractLsb' 0 8 = (c <<< 8).extractLsb' 8 8 := by
    apply BitVec.eq_of_getLsbD_eq
    intro i hi
    simp [hi, show i < 16 by omega, show 8 + i < 16 by omega]
  rw [crc16_append, hbytes, crc16_cons, crc16_cons, crc16_nil, crcStep_highByte, hlow, crcStep_highByte,
    ← BitVec.shiftLeft_add]
  exact BitVec.shiftLeft_eq_zero (by decide)

/-- Settles O15: only the high checksum byte is fed. -/
theorem crcOneBytePastTheChecksum : Obligations.CrcOneBytePastTheChecksum := by
  intro S
  have hlow (c : Half) : c <<< 8 = (c.setWidth 8).setWidth 16 <<< 8 := by
    apply BitVec.eq_of_getLsbD_eq
    intro i hi
    simp [show i - 8 < 8 by omega, show i - 8 < 16 by omega]
  rw [crc16_append, crc16_cons, crc16_nil, crcStep_highByte, hlow]

/-! ### Linearity -/

/-- A byte's step is linear in the register and the byte together. -/
theorem crcStep_xor (c d : Half) (x y : Byte) : crcStep (c ^^^ d) (x ^^^ y) = crcStep c x ^^^ crcStep d y := by
  simp only [crcStep, ← crcShifts_xor, BitVec.setWidth_xor, BitVec.shiftLeft_xor_distrib]
  congr 1
  ac_rfl

/-- The checksum is linear in the start value and the data together. -/
theorem crc16_xorBytes {S T : List Byte} (hlen : S.length = T.length) (c d : Half) :
    crc16 (xorBytes S T) (c ^^^ d) = crc16 S c ^^^ crc16 T d := by
  induction S generalizing T c d with
  | nil =>
    obtain rfl := List.eq_nil_of_length_eq_zero hlen.symm
    rfl
  | cons x S ih =>
    cases T with
    | nil => simp at hlen
    | cons y T =>
      have hstep := ih (Nat.succ.inj hlen) (crcStep c x) (crcStep d y)
      rwa [← crcStep_xor] at hstep

@[simp] theorem xorBytes_replicate_zero (S : List Byte) : xorBytes S (List.replicate S.length 0) = S := by
  induction S with
  | nil => rfl
  | cons x S ih => simpa [xorBytes, List.replicate_succ] using ih

/-- Settles O16: the linear law twice, for the data's exclusive or and then for the zeros. -/
theorem crcIsAffine : Obligations.CrcIsAffine := by
  intro S T c hlen
  have hxor : (xorBytes S T).length = S.length := by simp [hlen]
  calc crc16 (xorBytes S T) c
      = crc16 (xorBytes (xorBytes S T) (List.replicate S.length 0)) (c ^^^ c ^^^ c) := by
        rw [← hxor, xorBytes_replicate_zero, BitVec.xor_self, BitVec.zero_xor]
    _ = crc16 (xorBytes S T) (c ^^^ c) ^^^ crc16 (List.replicate S.length 0) c := crc16_xorBytes (by simp [hxor]) _ _
    _ = crc16 S c ^^^ crc16 T c ^^^ crc16 (List.replicate S.length 0) c := by rw [crc16_xorBytes hlen]

/-- Two strings have the same checksum only when their error pattern leaves an all-zero register at zero. -/
theorem crc16_xorBytes_eq_zero {S T : List Byte} (hlen : S.length = T.length) {c : Half} (h : crc16 S c = crc16 T c) :
    crc16 (xorBytes S T) 0 = 0 := by
  have hlin := crc16_xorBytes hlen c c
  rwa [h, BitVec.xor_self, BitVec.xor_self] at hlin

/-! ### Byte strings as bit strings -/

/-- Bit `k` of a byte string, counted from the first byte's most significant bit; 0 past the end. -/
def stringBit (S : List Byte) (k : Nat) : Bool := (S.getD (k / 8) 0).getLsbD (7 - k % 8)

/-- The bits of a byte string in the order in which they are fed. -/
def stringBits (S : List Byte) : List Bool := (List.range (8 * S.length)).map (stringBit S)

theorem stringBits_cons (b : Byte) (S : List Byte) : stringBits (b :: S) = byteBits b ++ stringBits S := by
  have hnext : stringBit (b :: S) ∘ (8 + ·) = stringBit S := by
    funext k
    simp [stringBit, show (8 + k) / 8 = k / 8 + 1 by omega]
  rw [stringBits, List.length_cons, Nat.mul_succ, Nat.add_comm, List.range_add, List.map_append, List.map_map, hnext]
  rfl

/-- The checksum feeds the bits of the string. -/
theorem crc16_eq_crcBits (S : List Byte) (c : Half) : crc16 S c = crcBits (stringBits S) c := by
  induction S generalizing c with
  | nil => rfl
  | cons b S ih => rw [crc16_cons, ih, crcStep_eq_crcBits, stringBits_cons, crcBits_append]

theorem stringBits_getD (S : List Byte) (k : Nat) : (stringBits S).getD k false = stringBit S k := by
  by_cases hk : k < 8 * S.length
  · simp [stringBits, hk]
  · have hend : S.length ≤ k / 8 := by omega
    simp [stringBits, stringBit, hk, hend]

/-- The error pattern has a 1 where the strings differ. -/
theorem stringBit_xorBytes {S T : List Byte} (hlen : S.length = T.length) (k : Nat) :
    stringBit (xorBytes S T) k = (stringBit S k != stringBit T k) := by
  by_cases hk : k / 8 < S.length
  · simp [stringBit, xorBytes, hk, hlen ▸ hk]
  · simp [stringBit, xorBytes, hk, hlen ▸ hk]

/-- Strings of one length with the same bits are equal. -/
theorem eq_of_stringBit_eq {S T : List Byte} (hlen : S.length = T.length) (h : ∀ k, stringBit S k = stringBit T k) :
    S = T := by
  apply List.ext_getElem hlen
  intro i hS hT
  apply BitVec.eq_of_getLsbD_eq
  intro j hj
  have hbit := h (8 * i + (7 - j))
  rw [stringBit, stringBit, show (8 * i + (7 - j)) / 8 = i by omega, show 7 - (8 * i + (7 - j)) % 8 = j by omega,
    List.getD_eq_getElem _ _ hS, List.getD_eq_getElem _ _ hT] at hbit
  exact hbit

/-! ### Errors of odd weight -/

/-- The exclusive or of the lowest `n` bits of the register. -/
def lowParity (c : Half) : Nat → Bool
  | 0 => false
  | n + 1 => lowParity c n ^^ c.getLsbD n

/-- The exclusive or of all bits of the register: its polynomial's value at 1, the root of the factor x + 1 (R106). -/
def crcParity (c : Half) : Bool := lowParity c 16

theorem crcParity_eq (c : Half) : crcParity c = (lowParity c 15 ^^ c.getLsbD 15) := rfl

theorem crcParity_zero : crcParity 0 = false := rfl

theorem lowParity_xor (c d : Half) (n : Nat) : lowParity (c ^^^ d) n = (lowParity c n ^^ lowParity d n) := by
  induction n with
  | zero => rfl
  | succ n ih =>
    simp only [lowParity, ih, BitVec.getLsbD_xor, Bool.xor_assoc, Bool.xor_left_comm]

theorem lowParity_shiftLeft_one (c : Half) {n : Nat} (hn : n < 16) : lowParity (c <<< 1) (n + 1) = lowParity c n := by
  induction n with
  | zero => simp [lowParity]
  | succ n ih =>
    rw [lowParity, ih (by omega), lowParity, BitVec.getLsbD_shiftLeft]
    simp [hn]

/-- The generator has the root 1, so feeding a bit adds just that bit to the parity. -/
theorem crcParity_crcFeedBit (c : Half) (b : Bool) : crcParity (crcFeedBit c b) = (crcParity c ^^ b) := by
  have hpoly (p : Bool) : lowParity (if p then 0x1021 else 0) 16 = p := by cases p <;> decide
  rw [crcParity, crcFeedBit, lowParity_xor, lowParity_shiftLeft_one c (by decide), hpoly, crcParity_eq]
  cases c.getLsbD 15 <;> simp

/-- The register's parity counts the ones fed. -/
theorem crcParity_crcBits (bs : List Bool) (c : Half) :
    crcParity (crcBits bs c) = (crcParity c ^^ (bs.countP id).bodd) := by
  induction bs generalizing c with
  | nil => simp
  | cons b bs ih =>
    rw [crcBits_cons, ih, crcParity_crcFeedBit]
    cases b <;> simp

/-- The weight of the error pattern is the number of places where the strings differ. -/
theorem countP_stringBits_xorBytes {S T : List Byte} (hlen : S.length = T.length) :
    (stringBits (xorBytes S T)).countP id =
      (List.range (8 * S.length)).countP fun k => stringBit S k != stringBit T k := by
  rw [stringBits, List.countP_map, xorBytes_length, ← hlen, Nat.min_self]
  exact List.countP_congr fun k _ => by simp [stringBit_xorBytes hlen]

/-- Settles O17: an error pattern of odd weight leaves the register with odd parity, so not at zero. -/
theorem crcDetectsOddErrors : Obligations.CrcDetectsOddErrors := by
  intro S T c hlen hodd heq
  have hweight : (stringBits (xorBytes S T)).countP id % 2 = 1 := (countP_stringBits_xorBytes hlen).symm ▸ hodd
  have hparity := crcParity_crcBits (stringBits (xorBytes S T)) 0
  rw [← crc16_eq_crcBits, crc16_xorBytes_eq_zero hlen heq, crcParity_zero, Bool.false_xor] at hparity
  rw [Nat.mod_two_of_bodd, ← hparity] at hweight
  exact absurd hweight (by decide)

/-! ### Error bursts -/

/-- The register is cleared by 16 bits, and any zeros after them, only when they are its own bits, top bit first. -/
theorem getMsbD_eq_of_crcBits_eq_zero {bs : List Bool} {c : Half} (hend : ∀ k, 16 ≤ k → bs.getD k false = false)
    (h : crcBits bs c = 0) (i : Nat) : c.getMsbD i = bs.getD i false := by
  induction bs generalizing c i with
  | nil =>
    obtain rfl : c = 0 := h
    simp
  | cons b bs ih =>
    have htail := ih (fun k hk => hend (k + 1) (by omega)) h
    have hlow : (crcFeedBit c b).getLsbD 0 = false := (htail 15).trans (hend 16 (by decide))
    have hb : c.getLsbD 15 = b := by rwa [crcFeedBit_getLsbD_zero, bne_eq_false_iff_eq] at hlow
    subst hb
    cases i with
    | zero => rfl
    | succ i =>
      have hi := htail i
      rwa [crcFeedBit_topBit, BitVec.getMsbD_shiftLeft] at hi

/-- Bits that are 0 outside 16 places leave a zero register at zero only when they are all 0. -/
theorem getD_eq_false_of_crcBits_zero {bs : List Bool} {p : Nat}
    (hburst : ∀ k, k < p ∨ p + 16 ≤ k → bs.getD k false = false) (h : crcBits bs 0 = 0) (k : Nat) :
    bs.getD k false = false := by
  induction p generalizing bs k with
  | zero =>
    rw [← getMsbD_eq_of_crcBits_eq_zero (fun k hk => hburst k (by omega)) h k]
    simp
  | succ p ih =>
    cases bs with
    | nil => rfl
    | cons b bs =>
      obtain rfl : b = false := hburst 0 (by omega)
      rw [crcBits_cons, crcFeedBit_zero_false] at h
      cases k with
      | zero => rfl
      | succ k => exact ih (fun j hj => hburst (j + 1) (by omega)) h k

/-- Settles O18: a burst that leaves the checksum unchanged is empty. -/
theorem crcDetectsBursts : Obligations.CrcDetectsBursts := by
  intro S T c p hlen hne hburst heq
  have hzero : crcBits (stringBits (xorBytes S T)) 0 = 0 := by
    rw [← crc16_eq_crcBits, crc16_xorBytes_eq_zero hlen heq]
  have hsame (k : Nat) : (stringBits (xorBytes S T)).getD k false = false ↔ stringBit S k = stringBit T k := by
    rw [stringBits_getD, stringBit_xorBytes hlen, bne_eq_false_iff_eq]
  have hempty := getD_eq_false_of_crcBits_zero (fun k hk => (hsame k).2 (hburst k hk)) hzero
  exact hne (eq_of_stringBit_eq hlen fun k => (hsame k).1 (hempty k))

end Sys2Proof.Machine

/-! PROOFS. The facts that the statements on the frame codec (41_frame_codec.md) turn on: the frame that ENCODE leaves
in FBUF, field by field; what each of DECODE's checks decides; and what DECODE makes of a frame that ENCODE built. -/

namespace Sys2Proof.Machine

/-! ### Byte strings and FBUF -/

/-- The big-endian bytes of two bytes side by side. -/
theorem bytesOfHalf_append (a b : Byte) : bytesOfHalf (a ++ b) = [a, b] := by
  rw [bytesOfHalf_eq, BitVec.extractLsb'_append_eq_of_le (by decide),
    BitVec.extractLsb'_append_eq_of_add_le (by decide)]
  simp

/-- Two neighbouring FBUF bytes as a 16-bit number. -/
theorem State.halfOfBytes_readFbuf (s : State) (off : Nat) :
    halfOfBytes (s.readFbuf off 2) = s.fbuf off ++ s.fbuf (off + 1) := halfOfBytes_two _ _

/-- Four neighbouring FBUF bytes as a word. -/
theorem State.wordOfBytes_readFbuf (s : State) (off : Nat) :
    wordOfBytes (s.readFbuf off 4) = s.fbuf off ++ s.fbuf (off + 1) ++ s.fbuf (off + 2) ++ s.fbuf (off + 3) :=
  s.wordOfBytes_bytesAt (fbufBase + off)

/-- A part of FBUF is a part of any longer string read from its start. -/
theorem State.readFbuf_eq_take_drop (s : State) {off len n : Nat} (h : off + len ≤ n) :
    s.readFbuf off len = ((s.readFbuf 0 n).drop off).take len := by
  apply List.ext_getElem
  · simp; omega
  · intro k _ _
    simp [Nat.add_assoc]

/-! ### What ENCODE answers (R120-R124) -/

theorem State.keyMissing_eq_true_iff (s : State) (t : Byte) :
    s.keyMissing t = true ↔ s.cipherNeeded t = true ∧ s.keyValid = false := by simp [State.keyMissing]

theorem State.keyMissing_eq_false_iff (s : State) (t : Byte) :
    s.keyMissing t = false ↔ s.keyValid = true ∨ s.cipherNeeded t = false := by
  cases hc : s.cipherNeeded t <;> simp [State.keyMissing, hc]

/-- R33: the four plaintext types are the bytes of CFG_PTYPE. -/
theorem State.isPlain_iff (s : State) (t : Byte) :
    s.isPlain t = true ↔ ∃ k, k < 4 ∧ t = s.cfgPtype.extractLsb' (8 * k) 8 := by
  constructor
  · intro h
    simp only [State.isPlain, Bool.or_eq_true, beq_iff_eq] at h
    obtain ((h | h) | h) | h := h
    · exact ⟨0, by decide, h⟩
    · exact ⟨1, by decide, h⟩
    · exact ⟨2, by decide, h⟩
    · exact ⟨3, by decide, h⟩
  · rintro ⟨k, hk, rfl⟩
    match k, hk with
    | 0, _ | 1, _ | 2, _ | 3, _ => simp [State.isPlain]

/-- R121, with the four codes of R33 written out. -/
theorem State.cipherNeeded_eq_true_iff (s : State) (t : Byte) :
    s.cipherNeeded t = true ↔ s.encEn = true ∧ ∀ k, k < 4 → t ≠ s.cfgPtype.extractLsb' (8 * k) 8 := by
  have hplain : s.isPlain t = false ↔ ∀ k, k < 4 → t ≠ s.cfgPtype.extractLsb' (8 * k) 8 := by
    rw [← Bool.not_eq_true, State.isPlain_iff]
    push Not
    rfl
  simp [State.cipherNeeded, hplain]

theorem exec_encode_tooLong {s : State} (h : 120 < s.txLen) : exec .encode s = .next (s.finish .tooLong) :=
  congrArg Host.Outcome.next (if_pos h)

theorem exec_encode_keyErr {s : State} (hlen : s.txLen ≤ 120) (hkey : s.keyMissing s.txType = true) :
    exec .encode s = .next (s.finish .keyErr) :=
  congrArg Host.Outcome.next ((if_neg (Nat.not_lt.2 hlen)).trans (if_pos hkey))

theorem exec_encode_ok {s : State} (hlen : s.txLen ≤ 120) (hkey : s.keyMissing s.txType = false) :
    exec .encode s = .next (s.writeFrame.advanceCounter.finish .ok) :=
  congrArg Host.Outcome.next ((if_neg (Nat.not_lt.2 hlen)).trans (if_neg (by simp [hkey])))

/-- What an OK result says of an ENCODE. -/
theorem eq_of_exec_encode_ok {s t : State} (h : exec .encode s = .next t) (hok : t.result = .ok) :
    s.txLen ≤ 120 ∧ s.keyMissing s.txType = false ∧ t = s.writeFrame.advanceCounter.finish .ok := by
  obtain ⟨-, rfl⟩ | ⟨-, -, rfl⟩ | hsent := execEncode_cases h
  · exact absurd hok (by simp)
  · exact absurd hok (by simp)
  · exact hsent

/-- The fields that an ENCODE which finishes OK writes (R123). -/
theorem State.encoded_eq (s : State) :
    ∃ m f b c w, s.writeFrame.advanceCounter.finish .ok = { s with
      mem := m, flen := f, cipher := b, txCtr := c, ctrWrap := w, result := .ok, done := true, eng := .idle } := by
  unfold State.advanceCounter
  split
  · exact ⟨_, _, _, _, _, rfl⟩
  · exact ⟨_, _, _, s.txCtr, s.ctrWrap, rfl⟩

theorem State.advanceCounter_of_not_autoinc {s : State} (h : s.autoinc = false) : s.advanceCounter = s := by
  simp [State.advanceCounter, h]

theorem State.advanceCounter_of_autoinc {s : State} (h : s.autoinc = true) :
    s.advanceCounter = { s with txCtr := s.txCtr + 1, ctrWrap := s.ctrWrap || s.txCtr + 1 == 0 } := by
  simp [State.advanceCounter, h]

/-- Settles O21: the length is checked before the key. -/
theorem encodeChecksLengthFirst : Obligations.EncodeChecksLengthFirst := fun _ hlen => exec_encode_tooLong hlen

/-- Settles O22: a needed cipher without a key is a missing key. -/
theorem encodeNeverSubstitutesPlaintext : Obligations.EncodeNeverSubstitutesPlaintext := by
  intro s hlen henc hkey htype
  have hneeded : s.cipherNeeded s.txType = true := (s.cipherNeeded_eq_true_iff _).2 ⟨henc, htype⟩
  exact exec_encode_keyErr hlen ((s.keyMissing_eq_true_iff _).2 ⟨hneeded, hkey⟩)

/-- Settles O7: the completions that are not OK are the failed ones. -/
theorem failingCommandOnlyCompletes : Obligations.FailingCommandOnlyCompletes := by
  intro i s t h hfail
  cases exec_completion h with
  | failed => rfl
  | _ => exact absurd rfl hfail

/-- Settles O20: the frame ends at FBUF[143), before PBUF begins. -/
theorem encodeWritesOnlyItsOutputs : Obligations.EncodeWritesOnlyItsOutputs := by
  intro s t h
  obtain ⟨-, rfl⟩ | ⟨-, -, rfl⟩ | ⟨hlen, -, rfl⟩ := execEncode_cases h
  · exact ⟨rfl, fun _ _ => rfl, fun _ => ⟨rfl, rfl⟩⟩
  · exact ⟨rfl, fun _ _ => rfl, fun _ => ⟨rfl, rfl⟩⟩
  · refine ⟨?_, fun k _ => ?_, fun hoff => ?_⟩
    · obtain ⟨m, f, b, c, w, hsent⟩ := s.encoded_eq
      rw [hsent]
    · have hbeyond : fbufBase + (23 + s.txLen) ≤ 0x200 + k := by unfold fbufBase; omega
      rw [State.finish_byteAt, State.advanceCounter_byteAt, s.writeFrame_byteAt_out (.inr hbeyond)]
    · rw [State.advanceCounter_of_not_autoinc (by simpa using hoff)]
      exact ⟨rfl, rfl⟩

/-! ### The frame in FBUF (R86, R120) -/

/-- FBUF of `u` holds the frame that ENCODE builds at `s`. -/
def State.HoldsFrameOf (u s : State) : Prop := u.readFbuf 0 (23 + s.txLen) = s.txFrame

/-- An ENCODE that finishes OK leaves its frame in FBUF. -/
theorem State.holdsFrameOf_encoded (s : State) : (s.writeFrame.advanceCounter.finish .ok).HoldsFrameOf s := by
  have hstore := State.bytesAt_store s fbufBase s.txFrame
  rw [State.txFrame_length] at hstore
  rw [State.HoldsFrameOf, ← hstore]
  exact State.bytesAt_congr fun k _ => by
    rw [State.finish_byteAt, State.advanceCounter_byteAt]
    rfl

/-- FLEN is the frame's length: 23 + L fits in a byte. -/
theorem State.encoded_flen {s : State} (hlen : s.txLen ≤ 120) :
    (s.writeFrame.advanceCounter.finish .ok).flen.toNat = 23 + s.txLen := by
  simp [Config.hdrLen, Config.crcLen]
  omega

/-- The 21 header bytes by offset (R86). -/
theorem State.txHeader_eq (s : State) :
    s.txHeader = [s.cfgMagic.extractLsb' 8 8, s.cfgMagic.extractLsb' 0 8, s.cfgVersion, s.txType,
      s.txSrc.extractLsb' 8 8, s.txSrc.extractLsb' 0 8, s.txDst.extractLsb' 8 8, s.txDst.extractLsb' 0 8] ++
      bytesOfWord s.txCtr ++ bytesOfWord s.txNonceHi ++ bytesOfWord s.txNonceLo ++ [s.txPlen] := by
  simp [State.txHeader, State.txNonce, bytesOfHalf_eq]

section HoldsFrame

variable {s u : State} (hu : u.HoldsFrameOf s)
include hu

/-- A part of the frame in FBUF. -/
theorem State.HoldsFrameOf.readFbuf {off len : Nat} (h : off + len ≤ 23 + s.txLen) :
    u.readFbuf off len = (s.txFrame.drop off).take len := by
  rw [u.readFbuf_eq_take_drop h, hu]

/-- The bytes that the checksum covers (R88). -/
theorem State.HoldsFrameOf.body : u.readFbuf 0 (21 + s.txLen) = s.txBody := by
  rw [hu.readFbuf (by omega), State.txFrame, List.drop_zero, List.take_left' s.txBody_length]

theorem State.HoldsFrameOf.checksum : u.readFbuf (21 + s.txLen) 2 = bytesOfHalf (frameCrc s.txBody) := by
  rw [hu.readFbuf (by omega), State.txFrame, List.drop_left' s.txBody_length, List.take_of_length_le (by simp)]

theorem State.HoldsFrameOf.payload : u.readFbuf 21 s.txLen = s.txPayload := by
  rw [u.readFbuf_eq_take_drop (n := 21 + s.txLen) le_rfl, hu.body, State.txBody, List.drop_left' s.txHeader_length,
    List.take_of_length_le (by simp)]

/-- A part of the header in FBUF. -/
theorem State.HoldsFrameOf.header {off len : Nat} (h : off + len ≤ 21) :
    u.readFbuf off len = (s.txHeader.drop off).take len := by
  have hheader : u.readFbuf 0 21 = s.txHeader := by
    rw [u.readFbuf_eq_take_drop (n := 21 + s.txLen) (by omega), hu.body, State.txBody, List.drop_zero,
      List.take_left' s.txHeader_length]
  rw [u.readFbuf_eq_take_drop h, hheader]

end HoldsFrame

/-! #### The frame's fields -/

/-- A header byte in FBUF. -/
theorem State.HoldsFrameOf.fbuf {s u : State} (hu : u.HoldsFrameOf s) {k : Nat} (hk : k < 21) :
    u.fbuf k = s.txHeader[k]'(by simpa using hk) := by
  have hbyte := congrArg (·[k]?) (hu.header (off := 0) (len := 21) le_rfl)
  simpa [hk, State.fbuf] using hbyte

/-- A payload byte in FBUF. -/
theorem State.HoldsFrameOf.payloadByte {s u : State} (hu : u.HoldsFrameOf s) {j : Nat} (hj : j < s.txLen) :
    u.byteAt (0x115 + j) = s.txPayload[j]'(by simpa using hj) := by
  have hbyte := congrArg (·[j]?) hu.payload
  simpa [hj] using hbyte

/-- The four bytes of a word that stands in the header, most significant first (R86). -/
theorem State.HoldsFrameOf.wordByte {s u : State} (hu : u.HoldsFrameOf s) {off k : Nat} {w : Word}
    (hoff : off + 4 ≤ 21) (hw : (s.txHeader.drop off).take 4 = bytesOfWord w) (hk : k < 4) :
    u.byteAt (0x100 + off + k) = w.extractLsb' (24 - 8 * k) 8 := by
  have hbyte := congrArg (·[k]?) ((hu.header hoff).trans hw)
  have hword : k < (bytesOfWord w).length := by simpa using hk
  simpa [hk, List.getElem?_eq_getElem hword, bytesOfWord_getElem w hk] using hbyte

theorem State.txHeader_ctr (s : State) : (s.txHeader.drop 8).take 4 = bytesOfWord s.txCtr := by
  rw [s.txHeader_eq]
  simp [bytesOfWord_eq]

theorem State.txHeader_nonceHi (s : State) : (s.txHeader.drop 12).take 4 = bytesOfWord s.txNonceHi := by
  rw [s.txHeader_eq]
  simp [bytesOfWord_eq]

theorem State.txHeader_nonceLo (s : State) : (s.txHeader.drop 16).take 4 = bytesOfWord s.txNonceLo := by
  rw [s.txHeader_eq]
  simp [bytesOfWord_eq]

/-- Payload byte j as ENCODE transmits it (R120, R121). -/
theorem State.txPayload_getElem (s : State) {j : Nat} (h : j < s.txPayload.length) :
    s.txPayload[j] = if s.cipherNeeded s.txType then
        s.byteAt (pbufBase + j) ^^^ (keystream s.keyBytes s.txNonce s.txCtr s.txLen).getD j 0
      else s.byteAt (pbufBase + j) := by
  have hj : j < s.txLen := by simpa using h
  unfold State.txPayload
  split <;> simp [State.ctrPayload_getElem, hj]

/-- The two checksum bytes in FBUF. -/
theorem State.HoldsFrameOf.checksumBytes {s u : State} (hu : u.HoldsFrameOf s) :
    u.byteAt (0x115 + s.txLen) ++ u.byteAt (0x116 + s.txLen) = frameCrc s.txBody := by
  have hfield := congrArg halfOfBytes hu.checksum
  rw [halfOfBytes_bytesOfHalf, State.halfOfBytes_readFbuf] at hfield
  rw [← hfield]
  simp only [State.fbuf, fbufBase]
  congr 2 <;> omega

/-- Settles O19: the OK ENCODE leaves its frame in FBUF, and every byte is read off the frame's fields. -/
theorem encodeLaysOutTheFrame : Obligations.EncodeLaysOutTheFrame := by
  intro s hlen hkey
  have hframe := s.holdsFrameOf_encoded
  have hheader {k : Nat} (hk : k < 21) := hframe.fbuf hk
  simp only [s.txHeader_eq] at hheader
  refine ⟨_, exec_encode_ok hlen ((s.keyMissing_eq_false_iff _).2 hkey), rfl, rfl, rfl, State.encoded_flen hlen,
    by simp, ⟨hheader (k := 0) (by decide), hheader (k := 1) (by decide), hheader (k := 2) (by decide),
      hheader (k := 3) (by decide), hheader (k := 4) (by decide), hheader (k := 5) (by decide),
      hheader (k := 6) (by decide), hheader (k := 7) (by decide)⟩,
    fun k hk => ⟨hframe.wordByte (by decide) s.txHeader_ctr hk, hframe.wordByte (by decide) s.txHeader_nonceHi hk,
      hframe.wordByte (by decide) s.txHeader_nonceLo hk⟩,
    hheader (k := 20) (by decide), fun j hj => ?_, ?_, fun a ha => ?_⟩
  · rw [hframe.payloadByte hj, s.txPayload_getElem]
    rfl
  · exact hframe.checksumBytes.trans (congrArg frameCrc hframe.body.symm)
  · rw [State.finish_byteAt, State.advanceCounter_byteAt, s.writeFrame_byteAt_out ha]

/-- Settles O28: without a needed cipher no key can be missing, and the payload is PBUF's. -/
theorem encodeIsIdentityWithoutCipher : Obligations.EncodeIsIdentityWithoutCipher := by
  intro s hlen hclear
  have hneeded : s.cipherNeeded s.txType = false := by
    obtain henc | hplain := hclear
    · simp [State.cipherNeeded, henc]
    · simp [State.cipherNeeded, (s.isPlain_iff _).2 hplain]
  refine ⟨_, exec_encode_ok hlen ((s.keyMissing_eq_false_iff _).2 (.inr hneeded)), rfl, by simpa using hneeded,
    fun j hj => ?_⟩
  rw [← Nat.add_assoc, s.holdsFrameOf_encoded.payloadByte hj, s.txPayload_getElem, if_neg (by simp [hneeded])]

/-- Settles O23: an OK ENCODE steps the counter under AUTOINC only, and no other command writes it. -/
theorem autoincStepsTheCounter : Obligations.AutoincStepsTheCounter := by
  intro i s t h
  by_cases hi : i = .encode
  · subst hi
    obtain ⟨-, rfl⟩ | ⟨-, -, rfl⟩ | ⟨-, -, rfl⟩ := execEncode_cases h
    · simp
    · simp
    · cases hauto : s.autoinc with
      | false =>
        rw [State.advanceCounter_of_not_autoinc (by simpa using hauto)]
        simp
      | true =>
        have hctr (k : Nat) (hk : k < 4) := s.holdsFrameOf_encoded.wordByte (by decide) s.txHeader_ctr hk
        rw [if_pos ⟨rfl, rfl, rfl⟩]
        refine ⟨?_, ?_, hctr⟩
        · rw [State.advanceCounter_of_autoinc (by simpa using hauto)]
          simp [BitVec.toNat_add]
        · rw [State.advanceCounter_of_autoinc (by simpa using hauto)]
          rfl
  · obtain ⟨-, -, -, -, hframe, -⟩ := commandsWriteOnlyTheirOutputs i s t h
    rw [if_neg fun hc => hi hc.1]
    exact (hframe hi).2

/-! ### DECODE's checks (R130, R133) -/

/-- DECODE completes with the result of its checks. -/
theorem exec_decode_completes (s : State) :
    ∃ t, exec .decode s = .next t ∧ t.done = true ∧ t.eng = .idle ∧ t.result = s.decodeCheck := by
  obtain ⟨t, h⟩ := exec_next .decode s
  refine ⟨t, h, ?_⟩
  obtain ⟨hok, rfl⟩ | ⟨-, rfl⟩ := execDecode_cases h
  · exact ⟨rfl, rfl, hok.symm⟩
  · exact ⟨rfl, rfl, rfl⟩

theorem exec_decode_ok {s : State} (h : s.decodeCheck = .ok) : exec .decode s = .next (s.writeReceived.finish .ok) :=
  congrArg Host.Outcome.next (if_pos h)

theorem exec_decode_fail {s : State} {c : Result} (h : s.decodeCheck = c) (hc : c ≠ .ok) :
    exec .decode s = .next (s.finish c) := by
  subst h
  exact congrArg Host.Outcome.next (if_neg hc)

/-- What an OK result says of a DECODE. -/
theorem eq_of_exec_decode_ok {s t : State} (h : exec .decode s = .next t) (hok : t.result = .ok) :
    s.decodeCheck = .ok ∧ t = s.writeReceived.finish .ok := by
  obtain hreceived | ⟨hfail, rfl⟩ := execDecode_cases h
  · exact hreceived
  · exact absurd hok hfail

/-- Check (2) byte by byte. -/
theorem State.magic_iff (s : State) : s.readFbuf 0 2 = bytesOfHalf s.cfgMagic ↔
    s.byteAt 0x100 = s.cfgMagic.extractLsb' 8 8 ∧ s.byteAt 0x101 = s.cfgMagic.extractLsb' 0 8 := by
  have hbytes : s.readFbuf 0 2 = [s.byteAt 0x100, s.byteAt 0x101] := rfl
  simp [hbytes, bytesOfHalf_eq]

/-- The checksum field byte by byte. -/
theorem State.rxChecksum_eq {s : State} (h : 2 ≤ s.frameLen) :
    s.rxChecksum = s.byteAt (0x100 + (s.frameLen - 2)) ++ s.byteAt (0x100 + (s.frameLen - 1)) := by
  have hlast : s.frameLen - 1 = s.frameLen - 2 + 1 := by omega
  rw [hlast]
  exact s.halfOfBytes_readFbuf _

/-- A frame within the length bounds goes on to check (2). -/
theorem State.decodeCheck_of_bounds {s : State} (hmin : 22 ≤ s.frameLen) (hmax : s.frameLen ≤ 143) :
    s.decodeCheck =
      if s.readFbuf 0 2 ≠ bytesOfHalf s.cfgMagic then .badMagic
      else if frameCrc (s.readFbuf 0 (s.frameLen - 2)) ≠ s.rxChecksum then .badChecksum
      else if 21 + s.rxLen + 2 ≠ s.frameLen then .badLength
      else if s.keyMissing (s.fbuf 3) then .keyErr
      else .ok :=
  if_neg fun hout => hout.elim (Nat.not_lt.2 hmin) (Nat.not_lt.2 hmax)

theorem State.decodeCheck_of_not_bounds {s : State} (h : s.frameLen < 22 ∨ 143 < s.frameLen) :
    s.decodeCheck = .badLength := if_pos h

/-- A frame that passes the first three checks goes on to check (4). -/
theorem State.decodeCheck_of_checksum {s : State} (hmin : 22 ≤ s.frameLen) (hmax : s.frameLen ≤ 143)
    (hmagic : s.readFbuf 0 2 = bytesOfHalf s.cfgMagic)
    (hcrc : frameCrc (s.readFbuf 0 (s.frameLen - 2)) = s.rxChecksum) :
    s.decodeCheck =
      if 21 + s.rxLen + 2 ≠ s.frameLen then .badLength else if s.keyMissing (s.fbuf 3) then .keyErr else .ok := by
  rw [State.decodeCheck_of_bounds hmin hmax, if_neg (not_not.2 hmagic), if_neg (not_not.2 hcrc)]

/-- The five checks together; `decodeCheck_ok` is the converse. -/
theorem State.decodeCheck_eq_ok {s : State} (hlen : s.frameLen = 23 + s.rxLen) (hmax : s.frameLen ≤ 143)
    (hmagic : s.readFbuf 0 2 = bytesOfHalf s.cfgMagic)
    (hcrc : frameCrc (s.readFbuf 0 (s.frameLen - 2)) = s.rxChecksum) (hkey : s.keyMissing (s.fbuf 3) = false) :
    s.decodeCheck = .ok := by
  rw [State.decodeCheck_of_checksum (by omega) hmax hmagic hcrc, if_neg (not_not.2 (by omega)), if_neg (by simp [hkey])]

/-- Settles O24: the checks of the model read byte by byte. -/
theorem decodeChecksInOrder : Obligations.DecodeChecksInOrder := by
  intro s
  obtain ⟨t, h, hdone, heng, hresult⟩ := exec_decode_completes s
  refine ⟨t, h, hdone, heng, hresult.trans ?_⟩
  change _ = if s.frameLen < 22 ∨ 143 < s.frameLen then _ else _
  by_cases hbounds : s.frameLen < 22 ∨ 143 < s.frameLen
  · rw [if_pos hbounds, State.decodeCheck_of_not_bounds hbounds]
  · rw [if_neg hbounds, State.decodeCheck_of_bounds (by omega) (by omega), State.rxChecksum_eq (by omega)]
    simp only [ne_eq, State.magic_iff, not_and_or, State.keyMissing_eq_true_iff]
    rfl

/-- Settles O29: no L satisfies 23 + L = 22. -/
theorem acceptedFramesAreExact : Obligations.AcceptedFramesAreExact := by
  intro s t h
  refine ⟨fun hok => ?_, fun hlen => ?_⟩
  · obtain ⟨hcheck, rfl⟩ := eq_of_exec_decode_ok h hok
    obtain ⟨hexact, hmax, -⟩ := decodeCheck_ok hcheck
    exact ⟨hmax, hexact⟩
  · obtain ⟨t', h', -, -, hresult⟩ := exec_decode_completes s
    obtain rfl := Host.Outcome.next.inj (h.symm.trans h')
    have hframe : s.frameLen = 22 := hlen
    rw [hresult, State.decodeCheck_of_bounds (by omega) (by omega),
      if_pos (show 21 + s.rxLen + 2 ≠ s.frameLen by omega)]
    split
    · simp
    · split <;> simp

/-! ### What an OK DECODE unpacks (R130-R132) -/

/-- Payload byte j as DECODE recovers it (R130, R131). -/
theorem State.rxPayload_getElem (s : State) {j : Nat} (h : j < s.rxPayload.length) :
    s.rxPayload[j] = if s.cipherNeeded (s.fbuf 3) then
        s.byteAt (0x115 + j) ^^^
          (keystream s.keyBytes (s.readFbuf 12 8) (wordOfBytes (s.readFbuf 8 4)) s.rxLen).getD j 0
      else s.byteAt (0x115 + j) := by
  have hj : j < s.rxLen := by simpa using h
  unfold State.rxPayload
  split <;> simp [xorBytes, hj]

/-- Settles O25: the conditions are the five checks, and the update is `State.writeReceived` read byte by byte. -/
theorem decodeUnpacksTheFrame : Obligations.DecodeUnpacksTheFrame := by
  intro s hlen hmax hmagic0 hmagic1 hcrc hkey
  have hexact : s.frameLen = 23 + s.rxLen := hlen
  have hfield : s.rxChecksum = _ := State.rxChecksum_eq (by omega)
  have hcheck : s.decodeCheck = .ok :=
    State.decodeCheck_eq_ok hexact hmax (s.magic_iff.2 ⟨hmagic0, hmagic1⟩) (hcrc.trans hfield.symm)
      ((s.keyMissing_eq_false_iff _).2 hkey)
  refine ⟨s.mem.writeBytes pbufBase s.rxPayload, ?_, fun j hj => ?_, fun a ha => ?_⟩
  · rw [exec_decode_ok hcheck]
    simp only [State.writeReceived, hfield, State.halfOfBytes_readFbuf, State.wordOfBytes_readFbuf]
    rfl
  · have hstore := State.byteAt_store_in s pbufBase s.rxPayload j (hj.trans_eq s.rxPayload_length.symm)
    rw [s.rxPayload_getElem, State.wordOfBytes_readFbuf] at hstore
    exact hstore
  · exact s.writeReceived_byteAt_out ha

/-! ### DECODE of a frame that ENCODE built (R136) -/

/-- Two states that agree on the first n FBUF bytes read the same frame. -/
theorem State.readFbuf_congr {s u : State} {n : Nat} (h : ∀ k, k < n → u.byteAt (0x100 + k) = s.byteAt (0x100 + k)) :
    u.readFbuf 0 n = s.readFbuf 0 n := State.bytesAt_congr h

theorem State.cipherNeeded_congr {s u : State} (henc : u.encEn = s.encEn) (hptype : u.cfgPtype = s.cfgPtype)
    (t : Byte) : u.cipherNeeded t = s.cipherNeeded t := by simp only [State.cipherNeeded, State.isPlain, henc, hptype]

section HoldsFrame

variable {s u : State} (hu : u.HoldsFrameOf s)
include hu

theorem State.HoldsFrameOf.magic : u.readFbuf 0 2 = bytesOfHalf s.cfgMagic := by
  rw [hu.header (by decide), s.txHeader_eq, bytesOfHalf_eq]
  rfl

theorem State.HoldsFrameOf.txType : u.fbuf 3 = s.txType := by
  rw [hu.fbuf (by decide)]
  simp only [s.txHeader_eq]
  rfl

theorem State.HoldsFrameOf.rxLen : u.rxLen = s.txLen := by
  rw [State.rxLen, hu.fbuf (by decide)]
  simp only [s.txHeader_eq]
  rfl

/-- The checksum is that of the bytes before it (R88). -/
theorem State.HoldsFrameOf.crc (hflen : u.frameLen = 23 + s.txLen) :
    frameCrc (u.readFbuf 0 (u.frameLen - 2)) = u.rxChecksum := by
  have hbody : u.frameLen - 2 = 21 + s.txLen := by omega
  rw [State.rxChecksum, hbody, hu.body, hu.checksum, halfOfBytes_bytesOfHalf]

/-- A frame that ENCODE built passes the five checks under the same configuration and key state. -/
theorem State.HoldsFrameOf.decodeCheck (hlen : s.txLen ≤ 120) (hmissing : s.keyMissing s.txType = false)
    (hflen : u.frameLen = 23 + s.txLen) (hmagic : u.cfgMagic = s.cfgMagic) (hkeyValid : u.keyValid = s.keyValid)
    (hcipher : u.cipherNeeded s.txType = s.cipherNeeded s.txType) : u.decodeCheck = .ok := by
  refine State.decodeCheck_eq_ok (by rw [hflen, hu.rxLen]) (by omega) (hmagic ▸ hu.magic) (hu.crc hflen) ?_
  rwa [hu.txType, State.keyMissing, hcipher, hkeyValid]

/-- The same keystream takes the cipher off again (42_cipher.md R161), so DECODE recovers what ENCODE read. -/
theorem State.HoldsFrameOf.rxPayload (hkey : u.key = s.key)
    (hcipher : u.cipherNeeded s.txType = s.cipherNeeded s.txType) : u.rxPayload = s.readPbuf 0 s.txLen := by
  have hnonce : u.readFbuf 12 8 = s.txNonce := by
    rw [hu.header (by decide), s.txHeader_eq, State.txNonce, bytesOfWord_eq, bytesOfWord_eq, bytesOfWord_eq]
    rfl
  have hctr : wordOfBytes (u.readFbuf 8 4) = s.txCtr := by
    rw [hu.header (by decide), s.txHeader_ctr, wordOfBytes_bytesOfWord]
  have hkeyBytes : u.keyBytes = s.keyBytes := by rw [State.keyBytes, State.keyBytes, hkey]
  rw [State.rxPayload, hu.txType, hcipher, hu.rxLen, hu.payload, State.txPayload]
  split
  · rw [State.ctrPayload, hnonce, hctr, hkeyBytes, xorBytes_xorBytes _ _ (by simp)]
  · rfl

/-- The received fields are the transmitted ones. -/
theorem State.HoldsFrameOf.received : u.writeReceived.rxType = s.txType ∧ u.writeReceived.rxSrc = s.txSrc ∧
    u.writeReceived.rxDst = s.txDst ∧ u.writeReceived.rxCtr = s.txCtr ∧ u.writeReceived.rxNonceHi = s.txNonceHi ∧
    u.writeReceived.rxNonceLo = s.txNonceLo ∧ u.writeReceived.rxPlen = s.txPlen ∧
    u.writeReceived.rxVer = s.cfgVersion := by
  have hheader {k : Nat} (hk : k < 21) := hu.fbuf hk
  simp only [s.txHeader_eq] at hheader
  have hhalf {off : Nat} {h : Half} (hoff : off + 2 ≤ 21) (hh : (s.txHeader.drop off).take 2 = bytesOfHalf h) :
      halfOfBytes (u.readFbuf off 2) = h := by rw [hu.header hoff, hh, halfOfBytes_bytesOfHalf]
  have hword {off : Nat} {w : Word} (hoff : off + 4 ≤ 21) (hw : (s.txHeader.drop off).take 4 = bytesOfWord w) :
      wordOfBytes (u.readFbuf off 4) = w := by rw [hu.header hoff, hw, wordOfBytes_bytesOfWord]
  refine ⟨hu.txType, hhalf (by decide) ?_, hhalf (by decide) ?_, hword (by decide) s.txHeader_ctr,
    hword (by decide) s.txHeader_nonceHi, hword (by decide) s.txHeader_nonceLo, hheader (k := 20) (by decide),
    hheader (k := 2) (by decide)⟩
  · rw [s.txHeader_eq, bytesOfHalf_eq]
    rfl
  · rw [s.txHeader_eq, bytesOfHalf_eq]
    rfl

end HoldsFrame

/-- Settles O26: the frame ENCODE built passes the five checks, and its fields are read back. -/
theorem decodeRecoversWhatEncodeSent : Obligations.DecodeRecoversWhatEncodeSent := by
  intro s t u h hok hbytes hflen hmagic hptype henc hkey hkeyValid
  obtain ⟨hlen, hmissing, rfl⟩ := eq_of_exec_encode_ok h hok
  have hframeLen : u.frameLen = 23 + s.txLen := by rw [State.frameLen, hflen, State.encoded_flen hlen]
  rw [State.encoded_flen hlen] at hbytes
  have hu : u.HoldsFrameOf s := (State.readFbuf_congr hbytes).trans s.holdsFrameOf_encoded
  have hcipher := State.cipherNeeded_congr (s := s) (by simpa using henc) (by simpa using hptype) s.txType
  have hcheck : u.decodeCheck = .ok :=
    hu.decodeCheck hlen hmissing hframeLen (by simpa using hmagic) (by simpa using hkeyValid) hcipher
  obtain ⟨htype, hsrc, hdst, hctr, hnonceHi, hnonceLo, hplen, hver⟩ := hu.received
  refine ⟨_, exec_decode_ok hcheck, rfl, htype, hsrc, hdst, hctr, hnonceHi, hnonceLo, hplen, hver, ?_, fun j hj => ?_⟩
  · simp [hu.txType, hcipher]
  · have hpayload := hu.rxPayload (by simpa using hkey) hcipher
    have hstore := State.byteAt_store_in u pbufBase u.rxPayload j (by rwa [u.rxPayload_length, hu.rxLen])
    have hbyte := State.readPbuf_getElem s 0 s.txLen j (by rwa [State.readPbuf_length])
    simp only [← hpayload] at hbyte
    exact hstore.trans hbyte

/-! ### Damaged frames (R136 and the corner cases of R130) -/

theorem State.bytesOfHalf_rxChecksum (s : State) : bytesOfHalf s.rxChecksum = s.readFbuf (s.frameLen - 2) 2 := by
  rw [State.rxChecksum, State.halfOfBytes_readFbuf, bytesOfHalf_append]
  rfl

/-- A string that ends in its own checksum has checksum 0 (40_crc.md R106). -/
theorem State.frameCrc_eq_zero {s : State} (hmin : 2 ≤ s.frameLen)
    (h : frameCrc (s.readFbuf 0 (s.frameLen - 2)) = s.rxChecksum) : frameCrc (s.readFbuf 0 s.frameLen) = 0 := by
  have hsplit : s.readFbuf 0 s.frameLen = s.readFbuf 0 (s.frameLen - 2) ++ bytesOfHalf s.rxChecksum := by
    have happend := s.bytesAt_append fbufBase (s.frameLen - 2) 2
    rw [Nat.sub_add_cancel hmin] at happend
    rw [State.bytesOfHalf_rxChecksum]
    exact happend.symm
  rw [hsplit, ← h]
  exact crcResidueIsZero _

/-- A single wrong byte changes the checksum: it is a burst of at most 8 bits. -/
theorem State.frameCrc_ne_of_byte {s u : State} {n p : Nat} (hp : p < n)
    (hne : u.byteAt (0x100 + p) ≠ s.byteAt (0x100 + p))
    (hsame : ∀ k, k < n → k ≠ p → u.byteAt (0x100 + k) = s.byteAt (0x100 + k)) :
    frameCrc (u.readFbuf 0 n) ≠ frameCrc (s.readFbuf 0 n) := by
  have hbyte (v : State) {k : Nat} (hk : k < n) : (v.readFbuf 0 n).getD k 0 = v.byteAt (0x100 + k) := by
    simp [hk]
  refine crcDetectsBursts _ _ _ (8 * p) (by simp) (fun heq => hne ?_) fun k hk => ?_
  · rw [← hbyte u hp, heq, hbyte s hp]
  · by_cases hlt : k / 8 < n
    · rw [hbyte u hlt, hbyte s hlt, hsame _ hlt (by omega)]
    · simp [hlt]

theorem xor_twoPow_ne (x : Byte) {b : Nat} (hb : b < 8) : x ^^^ BitVec.twoPow 8 b ≠ x := by
  intro heq
  have hbit := congrArg (·.getLsbD b) heq
  simp [hb] at hbit

/-- An accepted frame with one byte changed: DECODE names the magic bytes, or else the checksum. -/
theorem State.decodeCheck_of_wrongByte {s u : State} (hs : s.decodeCheck = .ok) (hlen : u.frameLen = s.frameLen)
    (hmagic : u.cfgMagic = s.cfgMagic) {p : Nat} (hp : p < s.frameLen)
    (hne : u.byteAt (0x100 + p) ≠ s.byteAt (0x100 + p))
    (hsame : ∀ k, k < s.frameLen → k ≠ p → u.byteAt (0x100 + k) = s.byteAt (0x100 + k)) :
    u.decodeCheck = if p < 2 then .badMagic else .badChecksum := by
  obtain ⟨hexact, hmax, -, hsmagic, hscrc⟩ := decodeCheck_ok hs
  rw [State.decodeCheck_of_bounds (by omega) (by omega), hmagic, ← hsmagic]
  by_cases hlow : p < 2
  · have hwrong : u.readFbuf 0 2 ≠ s.readFbuf 0 2 := fun heq => by
      have hbyte := congrArg (·[p]?) heq
      exact hne (by simpa [hlow] using hbyte)
    rw [if_pos hlow, if_pos hwrong]
  · have hsame2 : u.readFbuf 0 2 = s.readFbuf 0 2 :=
      State.readFbuf_congr fun k hk => hsame k (by omega) (by omega)
    have hwrong : frameCrc (u.readFbuf 0 (u.frameLen - 2)) ≠ u.rxChecksum := fun hucrc => by
      have huzero := State.frameCrc_eq_zero (by omega) hucrc
      have hszero := State.frameCrc_eq_zero (by omega) hscrc
      rw [hlen] at huzero
      exact State.frameCrc_ne_of_byte hp hne hsame (huzero.trans hszero.symm)
    rw [if_neg hlow, if_neg (not_not.2 hsame2), if_pos hwrong]

/-- Settles O27: the frame as built passes the checks, so with one byte changed it fails the one that names the byte. -/
theorem singleBitFlipIsRejected : Obligations.SingleBitFlipIsRejected := by
  intro s t u p b h hok hflen hmagic hp hb hflip hsame
  obtain ⟨hlen, hmissing, rfl⟩ := eq_of_exec_encode_ok h hok
  have hcheck := s.holdsFrameOf_encoded.decodeCheck hlen hmissing (State.encoded_flen hlen) (by simp) (by simp)
    (State.cipherNeeded_congr (by simp) (by simp) _)
  obtain ⟨v, hv, -, -, hresult⟩ := exec_decode_completes u
  refine ⟨v, hv, hresult.trans ?_⟩
  exact State.decodeCheck_of_wrongByte hcheck (congrArg BitVec.toNat hflen) hmagic hp
    (hflip ▸ xor_twoPow_ne _ hb) hsame

/-- The low byte of two moves up and zeros follow it. -/
theorem append_shiftLeft_byte (a b : Byte) : (a ++ b : Half) <<< 8 = b ++ 0#8 := by
  apply BitVec.eq_of_toNat_eq
  have ha := a.isLt; have hb := b.isLt
  simp only [BitVec.toNat_shiftLeft, toNat_append_byte, Nat.shiftLeft_eq, BitVec.toNat_ofNat]
  omega

/-- One byte past a correct string's body the register holds the checksum's low byte and zeros (R106). -/
theorem State.frameCrc_onePast {s : State} (hmin : 2 ≤ s.frameLen)
    (h : frameCrc (s.readFbuf 0 (s.frameLen - 2)) = s.rxChecksum) :
    frameCrc (s.readFbuf 0 (s.frameLen - 1)) = s.byteAt (0x100 + (s.frameLen - 1)) ++ 0#8 := by
  have hsplit : s.readFbuf 0 (s.frameLen - 1) = s.readFbuf 0 (s.frameLen - 2) ++ [s.rxChecksum.extractLsb' 8 8] := by
    have hhigh := (bytesOfHalf_eq _).symm.trans s.bytesOfHalf_rxChecksum
    have happend := s.bytesAt_append fbufBase (s.frameLen - 2) 1
    rw [show s.frameLen - 2 + 1 = s.frameLen - 1 by omega] at happend
    rw [(List.cons.inj hhigh).1]
    exact happend.symm
  rw [hsplit, frameCrc, crc16_append, ← frameCrc, h, crc16_cons, crc16_nil, crcStep_highByte, State.rxChecksum_eq hmin,
    append_shiftLeft_byte]

/-- Settles O30: one byte past its checksum the string carries a correct checksum, at a length other than 23 + L. -/
theorem trailingZeroByteIsBadLength : Obligations.TrailingZeroByteIsBadLength := by
  intro s t u h hok hflen hmagic hsame hzero
  obtain ⟨hcheck, -⟩ := eq_of_exec_decode_ok h hok
  obtain ⟨hexact, hmax, -, hsmagic, hscrc⟩ := decodeCheck_ok hcheck
  have huLen : u.frameLen = s.frameLen + 1 := hflen
  have hread {n : Nat} (hn : n ≤ s.frameLen) : u.readFbuf 0 n = s.readFbuf 0 n :=
    State.readFbuf_congr fun k hk => hsame k (Nat.lt_of_lt_of_le hk hn)
  have hcrc : frameCrc (u.readFbuf 0 (u.frameLen - 2)) = u.rxChecksum := by
    have hbody : u.frameLen - 2 = s.frameLen - 1 := by omega
    rw [State.rxChecksum_eq (by omega), hbody, hread (by omega), State.frameCrc_onePast (by omega) hscrc, huLen,
      Nat.add_sub_cancel, ← hsame _ (show s.frameLen - 1 < s.frameLen by omega)]
    exact congrArg _ hzero.symm
  refine ⟨hcrc.trans (State.rxChecksum_eq (by omega)), exec_decode_fail ?_ (by decide)⟩
  by_cases hbound : 143 < u.frameLen
  · exact State.decodeCheck_of_not_bounds (.inr hbound)
  · have hrxLen : u.rxLen = s.rxLen := congrArg BitVec.toNat (hsame 20 (show 20 < s.frameLen by omega))
    rw [State.decodeCheck_of_checksum (by omega) (by omega) (by rw [hread (by omega), hsmagic, hmagic]) hcrc,
      if_pos (by omega)]

end Sys2Proof.Machine

/-! PROOFS. The facts that the statements on the cipher (42_cipher.md) turn on: the keystream block by block, the S-box by
its formula, what CTR_PBUF and AES_BLOCK answer, and a host read beside the hidden key. -/

namespace Sys2Proof.Machine

/-! ### The keystream (R160, R161) -/

/-- The keystream before its tail is discarded: byte i is byte i mod 16 of the encryption of counter block i/16. -/
theorem keystreamBlocks_getElem? (k nonce : List Byte) (ctr : Word) {n i : Nat} (h : i < 16 * n) :
    ((List.range n).flatMap fun j => aesEncrypt k (counterBlock nonce ctr j))[i]? =
      (aesEncrypt k (counterBlock nonce ctr (i / 16)))[i % 16]? := by
  have hlen := keystreamBlocks_length k nonce ctr
  induction n with
  | zero => omega
  | succ n ih =>
    rw [List.range_succ, List.flatMap_append, List.flatMap_singleton]
    by_cases hi : i < 16 * n
    · rw [List.getElem?_append_left (by rwa [hlen]), ih hi]
    · have hblock : i / 16 = n := by omega
      have hbyte : i - 16 * n = i % 16 := by omega
      rw [List.getElem?_append_right (by rw [hlen]; omega), hlen, hblock, hbyte]

/-- R160: a keystream is as many of these bytes as are asked for. -/
theorem keystream_getElem? (k nonce : List Byte) (ctr : Word) {len i : Nat} (h : i < len) :
    (keystream k nonce ctr len)[i]? = (aesEncrypt k (counterBlock nonce ctr (i / 16)))[i % 16]? := by
  rw [keystream, List.getElem?_take_of_lt h, keystreamBlocks_getElem? k nonce ctr (by omega)]

/-- R161: the length of a keystream only says where it ends. -/
theorem keystream_prefix (k nonce : List Byte) (ctr : Word) {len len' : Nat} (h : len ≤ len') :
    keystream k nonce ctr len <+: keystream k nonce ctr len' := by
  refine List.prefix_iff_getElem?.2 fun i hi => ?_
  have hlt : i < len := by simpa using hi
  rw [← List.getElem?_eq_getElem hi, keystream_getElem? _ _ _ (hlt.trans_le h), keystream_getElem? _ _ _ hlt]

/-- Settles O33: the length, the bytes and the prefixes, each by its own law. -/
theorem keystreamIsBlockwise : Obligations.KeystreamIsBlockwise := fun k nonce ctr len =>
  ⟨keystream_length k nonce ctr len, fun _ => keystream_getElem? k nonce ctr, fun _ => keystream_prefix k nonce ctr⟩

/-! ### The S-box and the known answers (R152-R157) -/

/-- `x•b` in GF(2^8): the sum of the xtime powers of x that b's bits select (R152). -/
def gfMul (x b : Byte) : Byte :=
  (List.range 8).foldl (fun acc k => acc ^^^ (if b.getLsbD k then (xtime^[k]) x else 0)) 0

/-- Bit i of the affine map of R153. -/
def affineBit (b : Byte) (i : Nat) : Bool :=
  b.getLsbD i ^^ b.getLsbD ((i + 4) % 8) ^^ b.getLsbD ((i + 5) % 8) ^^ b.getLsbD ((i + 6) % 8) ^^
    b.getLsbD ((i + 7) % 8) ^^ (0x63 : Byte).getLsbD i

/-- The affine map of R153 undone: bit i is y[i+2] ⊕ y[i+5] ⊕ y[i+7] ⊕ 0x05[i], indices mod 8. -/
def affineInverse (y : Byte) : Byte := y.rotateLeft 6 ^^^ y.rotateLeft 3 ^^^ y.rotateLeft 1 ^^^ 0x05

theorem affineInverse_getLsbD (y : Byte) {i : Nat} (h : i < 8) :
    (affineInverse y).getLsbD i =
      (y.getLsbD ((i + 2) % 8) ^^ y.getLsbD ((i + 5) % 8) ^^ y.getLsbD ((i + 7) % 8) ^^ (0x05 : Byte).getLsbD i) := by
  interval_cases i <;> simp [affineInverse]

/-- The two maps undo each other: in the sum of sums y[i] stands once and every other bit of y twice. -/
theorem affineBit_affineInverse (y : Byte) {i : Nat} (h : i < 8) : affineBit (affineInverse y) i = y.getLsbD i := by
  rw [affineBit, affineInverse_getLsbD y h]
  iterate 4 rw [affineInverse_getLsbD y (Nat.mod_lt _ (by decide))]
  interval_cases i <;> simp only [Nat.reduceAdd, Nat.reduceMod, BitVec.reduceGetLsb]
  all_goals
    generalize y.getLsbD 0 = a, y.getLsbD 1 = b, y.getLsbD 2 = c, y.getLsbD 3 = d, y.getLsbD 4 = e, y.getLsbD 5 = f,
      y.getLsbD 6 = g, y.getLsbD 7 = k
    revert a b c d e f g k
    decide

theorem affineInverse_sbox_zero : affineInverse (sbox 0) = 0 := by decide

/-- The table's entry for x ≠ 0 comes from the multiplicative inverse of x (R153). -/
theorem gfMul_affineInverse_sbox : ∀ x : Byte, x ≠ 0 → gfMul x (affineInverse (sbox x)) = 1 := by
  decide +kernel

/-- Settles O32: the inverse of x is the table's entry with the affine map undone. -/
theorem sboxIsAffineInverse : Obligations.SboxIsAffineInverse := by
  refine fun x => ⟨affineInverse (sbox x), ?_, fun i hi => (affineBit_affineInverse (sbox x) hi).symm⟩
  split
  · rename_i hx
    rw [hx, affineInverse_sbox_zero]
  · exact gfMul_affineInverse_sbox x ‹_›

/-- FIPS-197 appendix C.1 (R157). -/
theorem aesEncrypt_fips197 : aesEncrypt (be 16 0x000102030405060708090A0B0C0D0E0F)
    (be 16 0x00112233445566778899AABBCCDDEEFF) = be 16 0x69C4E0D86A7B0430D8CDB78070B4C55A := by decide +kernel

/-- The round key of the last round there (R157). -/
theorem expandKey_fips197_last : ((expandKey (be 16 0x000102030405060708090A0B0C0D0E0F)).drop 40).flatten =
    be 16 0x13111D7FE3944A17F307A78B4D2B30C5 := by decide +kernel

theorem aesEncrypt_zero : aesEncrypt (be 16 0) (be 16 0) = be 16 0x66E94BD4EF8A2C3B884CFA59CA342B2E := by
  decide +kernel

/-- Settles O31: each answer is evaluated on its own. -/
theorem aesKnownAnswers : Obligations.AesKnownAnswers :=
  ⟨aesEncrypt_fips197, expandKey_fips197_last, aesEncrypt_zero⟩

/-! ### What CTR_PBUF answers (R172) -/

theorem exec_ctrPbuf_tooLong {s : State} (h : 120 < s.txLen) : exec .ctrPbuf s = .next (s.finish .tooLong) :=
  congrArg Host.Outcome.next (if_pos h)

theorem exec_ctrPbuf_keyErr {s : State} (hlen : s.txLen ≤ 120) (hkey : s.keyValid = false) :
    exec .ctrPbuf s = .next (s.finish .keyErr) :=
  congrArg Host.Outcome.next ((if_neg (Nat.not_lt.2 hlen)).trans (if_pos (by simp [hkey])))

theorem exec_ctrPbuf_ok {s : State} (hlen : s.txLen ≤ 120) (hkey : s.keyValid = true) :
    exec .ctrPbuf s = .next ((s.store pbufBase s.ctrPayload).finish .ok) :=
  congrArg Host.Outcome.next ((if_neg (Nat.not_lt.2 hlen)).trans (if_neg (by simp [hkey])))

/-- Byte j of PBUF after CTR_PBUF. -/
theorem State.store_ctrPayload_byteAt_in (s : State) {j : Nat} (h : j < s.txLen) :
    (s.store pbufBase s.ctrPayload).byteAt (pbufBase + j) =
      s.byteAt (pbufBase + j) ^^^ (keystream s.keyBytes s.txNonce s.txCtr s.txLen).getD j 0 := by
  rw [State.byteAt_store_in s pbufBase s.ctrPayload j (by simpa using h), s.ctrPayload_getElem]
  simp [h]

/-- Settles O36: the payload is stored in PBUF[0 .. L), and the two failures complete before anything is stored. -/
theorem ctrPbufAppliesTheKeystream : Obligations.CtrPbufAppliesTheKeystream := by
  refine fun s => ⟨fun hlen hkey => ?_, exec_ctrPbuf_tooLong, exec_ctrPbuf_keyErr⟩
  exact ⟨s.mem.writeBytes pbufBase s.ctrPayload, exec_ctrPbuf_ok hlen hkey, fun _ => s.store_ctrPayload_byteAt_in,
    fun _ => s.store_ctrPayload_byteAt_out⟩

/-- R161: CTR_PBUF's own payload, enciphered again with nothing else changed, is the payload before it. -/
theorem State.ctrPayload_store_ctrPayload (s : State) :
    ((s.store pbufBase s.ctrPayload).finish .ok).ctrPayload = s.readPbuf 0 s.txLen := by
  have hread : ((s.store pbufBase s.ctrPayload).finish .ok).readPbuf 0 s.txLen = s.ctrPayload := by
    have hstore := s.bytesAt_store pbufBase s.ctrPayload
    rwa [s.ctrPayload_length] at hstore
  calc ((s.store pbufBase s.ctrPayload).finish .ok).ctrPayload
    _ = xorBytes (((s.store pbufBase s.ctrPayload).finish .ok).readPbuf 0 s.txLen)
          (keystream s.keyBytes s.txNonce s.txCtr s.txLen) := rfl
    _ = s.readPbuf 0 s.txLen := by rw [hread, State.ctrPayload, xorBytes_xorBytes _ _ (by simp)]

/-- Settles O37: a byte inside PBUF[0 .. L) is the second run's payload, and a byte outside is left by both runs. -/
theorem ctrPbufIsAnInvolution : Obligations.CtrPbufIsAnInvolution := by
  intro s hlen hkey
  refine ⟨_, _, exec_ctrPbuf_ok hlen hkey, rfl, exec_ctrPbuf_ok hlen hkey, rfl, fun a => ?_⟩
  rw [State.finish_byteAt]
  by_cases ha : pbufBase ≤ a ∧ a < pbufBase + s.txLen
  · obtain ⟨j, rfl⟩ := Nat.exists_eq_add_of_le ha.1
    rw [s.ctrPayload_store_ctrPayload, State.byteAt_store_in _ _ _ j (by simp; omega)]
    simp
  · have hout : a < pbufBase ∨ pbufBase + s.txLen ≤ a := by omega
    rw [((s.store pbufBase s.ctrPayload).finish .ok).store_ctrPayload_byteAt_out hout, State.finish_byteAt,
      s.store_ctrPayload_byteAt_out hout]

/-! ### What AES_BLOCK answers (R173) -/

theorem exec_aesBlock_keyErr {s : State} (hkey : s.keyValid = false) : exec .aesBlock s = .next (s.finish .keyErr) :=
  congrArg Host.Outcome.next (if_pos (by simp [hkey]))

theorem exec_aesBlock_ok {s : State} (hkey : s.keyValid = true) :
    exec .aesBlock s = .next ((s.writeBlock (aesEncrypt s.keyBytes s.blockBytes)).finish .ok) :=
  congrArg Host.Outcome.next (if_neg (by simp [hkey]))

/-- The four bytes of a word made of four bytes. -/
theorem bytesOfWord_wordOfBytes_of_length {bs : List Byte} (h : bs.length = 4) : bytesOfWord (wordOfBytes bs) = bs := by
  obtain ⟨a, b, c, d, rfl⟩ := List.length_eq_four.1 h
  exact bytesOfWord_wordOfBytes a b c d

/-- The block register reads back the 16 bytes written to it (R36). -/
theorem State.writeBlock_blockBytes (s : State) {bs : List Byte} (h : bs.length = 16) :
    (s.writeBlock bs).blockBytes = bs := by
  simp only [State.blockBytes, State.writeBlock]
  iterate 4 rw [bytesOfWord_wordOfBytes_of_length (by simp [h])]
  rw [← List.take_add, ← List.take_add, ← List.take_add, List.take_of_length_le h.le]

/-- Settles O38: the words of BLK are those that hold the encryption's bytes. -/
theorem aesBlockEnciphersTheBlock : Obligations.AesBlockEnciphersTheBlock :=
  fun s => ⟨fun hkey => ⟨_, _, _, _, exec_aesBlock_ok hkey, s.writeBlock_blockBytes (aesEncrypt_length _ _)⟩,
    exec_aesBlock_keyErr⟩

/-- BLK holds counter block j when its words are the nonce, the counter and j (30_encoding.md R89). -/
theorem State.blockBytes_eq_counterBlock {s : State} {j : Nat} (h0 : s.blk0 = s.txNonceHi) (h1 : s.blk1 = s.txNonceLo)
    (h2 : s.blk2 = s.txCtr) (h3 : s.blk3 = BitVec.ofNat 32 j) : s.blockBytes = counterBlock s.txNonce s.txCtr j := by
  rw [State.blockBytes, h0, h1, h2, h3, counterBlock, State.txNonce]
  rfl

/-- Settles O39: what AES_BLOCK enciphers is the keystream's own counter block. -/
theorem aesBlockYieldsAKeystreamBlock : Obligations.AesBlockYieldsAKeystreamBlock := by
  intro s j _ hkey h0 h1 h2 h3
  refine ⟨_, exec_aesBlock_ok hkey, rfl, fun i hi hij => ?_⟩
  have hblock : (16 * j + i) / 16 = j := by omega
  have hbyte : (16 * j + i) % 16 = i := by omega
  rw [keystream_getElem? _ _ _ hij, hblock, hbyte, ← State.blockBytes_eq_counterBlock h0 h1 h2 h3]
  exact congrArg (·[i]?) (s.writeBlock_blockBytes (aesEncrypt_length s.keyBytes s.blockBytes))

/-! ### KEY_LOAD and KEY_CLEAR (R170, R171) -/

/-- R170, field by field. -/
theorem exec_keyLoad (s : State) : exec .keyLoad s = .next { s with
    key := s.stagedKey, keyValid := true, key0 := 0, key1 := 0, key2 := 0, key3 := 0,
    result := .ok, done := true, eng := .idle } := rfl

/-- Cleared staging registers hold the all-zero key. -/
theorem State.stagedKey_eq_zero {s : State} (h0 : s.key0 = 0) (h1 : s.key1 = 0) (h2 : s.key2 = 0) (h3 : s.key3 = 0) :
    s.stagedKey = 0 := by
  simp [State.stagedKey, h0, h1, h2, h3]

/-- Settles O34: the staging that KEY_LOAD leaves is the all-zero key. -/
theorem keyLoadCommitsTheStagedKey : Obligations.KeyLoadCommitsTheStagedKey := by
  refine fun s => ⟨exec_keyLoad s, fun t h => ?_⟩
  have ht := Host.Outcome.next.inj ((exec_keyLoad s).symm.trans h)
  have hstaged : t.stagedKey = 0 :=
    State.stagedKey_eq_zero (by rw [← ht]) (by rw [← ht]) (by rw [← ht]) (by rw [← ht])
  rw [exec_keyLoad, hstaged, ← ht]

/-- Settles O35: KEY_CLEAR leaves KEY_VALID = 0, which both commands check. -/
theorem keyClearErasesTheKey : Obligations.KeyClearErasesTheKey :=
  fun _ => ⟨_, rfl, rfl, exec_aesBlock_keyErr rfl, fun hlen => exec_ctrPbuf_keyErr hlen rfl⟩

/-! ### Host reads and the hidden key (R174) -/

/-- `s` with other contents of KEY and the staging registers. -/
def State.withKeys (s : State) (k : BitVec 128) (k0 k1 k2 k3 : Word) : State :=
  { s with key := k, key0 := k0, key1 := k1, key2 := k2, key3 := k3 }

/-- No register reads as the key or its staging (R35, R43). -/
@[simp] theorem State.withKeys_regValue (s : State) (k : BitVec 128) (k0 k1 k2 k3 : Word) (r : Reg) :
    (s.withKeys k k0 k1 k2 k3).regValue r = s.regValue r := by cases r <;> rfl

@[simp] theorem State.withKeys_busy (s : State) (k : BitVec 128) (k0 k1 k2 k3 : Word) :
    (s.withKeys k k0 k1 k2 k3).busy = s.busy := rfl

/-- A read of a listed register answers the same beside any key: the value, or a free word that no key decides. -/
theorem busRead_withKeys (s : State) (k : BitVec 128) (k0 k1 k2 k3 : Word) (r : Reg) :
    (s.withKeys k k0 k1 k2 k3).busRead r = (s.busRead r).withKeys k k0 k1 k2 k3 := by
  simp only [State.busRead, State.withKeys_busy, State.withKeys_regValue]
  split <;> rfl

/-- Settles O40: a read outside the window answers nothing, and a read of a listed register ignores the key. -/
theorem keyIsNeverReadable : Obligations.KeyIsNeverReadable := by
  intro s t addr size k k0 k1 k2 k3 h
  obtain ⟨hout, rfl⟩ | ⟨o, r, rfl, ho, h4, rfl, hr, rfl⟩ := hostRead_cases h
  · simp only [State.hostRead, hout]
    rfl
  · exact (hostRead_listed _ ho h4 hr).trans (congrArg _ (busRead_withKeys s k k0 k1 k2 k3 r))

end Sys2Proof.Machine

/-! PROOFS. The facts about issue, completion and the step that the statements on control (43_control.md) turn on: what
the engine's turn makes of a latched word, which step an event gives, and how a pending command comes to its end. -/

namespace Sys2Proof.Machine

/-! ### What the engine makes of a latched word (R192-R194) -/

theorem engineTurn_of_busy {s : State} {w : Word} (h : s.eng = .busy w) : s.engineTurn = s.execute w := by
  rw [State.engineTurn, h]

theorem execute_of_decode {w : Word} {i : Instr} (h : decode w = .instr i) (s : State) : s.execute w = exec i s := by
  rw [State.execute, h]

theorem execute_of_rejected {w : Word} {e : DecodeError} (h : decode w = .rejected e) (s : State) :
    s.execute w = .next (s.finish .illegalCmd) := by
  rw [State.execute, h]
  rfl

/-! ### Every command completes (R195, R211) -/

/-- Whatever its result, a completion leaves the engine idle with DONE set. -/
theorem Completion.finished {s t : State} {i : Instr} (h : Completion s i t) : t.eng = .idle ∧ t.done = true := by
  cases h <;> exact ⟨rfl, rfl⟩

/-- The five checks of R133 have the results that R211 lists for DECODE. -/
theorem State.decodeCheck_mem_mayFinish (s : State) : s.decodeCheck ∈ mayFinish .decode := by
  unfold State.decodeCheck
  split_ifs <;> decide

/-- A command finishes with a result that R211 lists for it. -/
theorem exec_result {i : Instr} {s t : State} (h : exec i s = .next t) : t.result ∈ mayFinish i := by
  cases i with
  | nop | crcInit | crcByte | keyLoad | keyClear =>
    obtain rfl := Host.Outcome.next.inj h
    exact List.mem_singleton.2 rfl
  | crcFbuf | crcPbuf =>
    obtain rfl := Host.Outcome.next.inj h
    split <;> simp [mayFinish]
  | encode => obtain ⟨-, rfl⟩ | ⟨-, -, rfl⟩ | ⟨-, -, rfl⟩ := execEncode_cases h <;> simp [mayFinish]
  | decode =>
    obtain ⟨-, rfl⟩ | ⟨-, rfl⟩ := execDecode_cases h
    · simp [mayFinish]
    · exact s.decodeCheck_mem_mayFinish
  | ctrPbuf => obtain ⟨-, rfl⟩ | ⟨-, -, rfl⟩ | ⟨-, -, rfl⟩ := execCtrPbuf_cases h <;> simp [mayFinish]
  | aesBlock => obtain ⟨-, rfl⟩ | ⟨-, rfl⟩ := execAesBlock_cases h <;> simp [mayFinish]

/-- Settles O6: a valid word runs its command, and an invalid one finishes with ILLEGAL_CMD. -/
theorem everyCommandCompletes : Obligations.EveryCommandCompletes := by
  intro s w hbusy
  rw [engineTurn_of_busy hbusy]
  cases hdecode : decode w with
  | instr i =>
    obtain ⟨t, hexec⟩ := exec_next i s
    obtain ⟨hidle, hdone⟩ := (exec_completion hexec).finished
    refine ⟨t, (execute_of_decode hdecode s).trans hexec, hidle, by simp [State.busy, hidle], hdone, ?_, nofun⟩
    rintro _ ⟨⟩
    exact exec_result hexec
  | rejected e => exact ⟨_, execute_of_rejected hdecode s, rfl, rfl, rfl, nofun, fun _ _ => rfl⟩

/-! ### The step that an event gives -/

theorem step_of_event {s : State} {e : Event} {rest : List Event} (h : s.inputs = e :: rest) :
    step s = { s with inputs := rest }.react e := by
  rw [step, State.advance, h]

/-- The oldest event being the engine's, a step is the completion of the pending word. -/
theorem step_of_engineEvent {s : State} {w : Word} {rest : List Event} (hin : s.inputs = .engine :: rest)
    (hbusy : s.eng = .busy w) : step s = { s with inputs := rest }.execute w :=
  (step_of_event hin).trans (engineTurn_of_busy hbusy)

/-- Whatever events wait, the step after `readyToRun w` is the completion of `w` just issued. -/
theorem step_readyToRun (s : State) (w : Word) : step (s.readyToRun w) = (s.issue w).execute w := by
  unfold State.readyToRun
  split
  · exact step_of_pending ‹_› rfl
  · rename_i e rest hin
    rw [step_of_engineEvent rfl rfl, ← hin]
    rfl

/-- Settles O4: the engine's step executes the latched word, and executing a word that decodes runs its command. -/
theorem stepRunsTheLatchedCommand : Obligations.StepRunsTheLatchedCommand := by
  intro s n i hdecode
  refine ⟨fun hbusy => ⟨fun hin => ?_, fun rest hin => ?_⟩, ?_⟩
  · exact (step_of_pending hin hbusy).trans (execute_of_decode hdecode _)
  · exact (step_of_engineEvent hin hbusy).trans (execute_of_decode hdecode _)
  · have hword : BitVec.ofNat 32 (n % 2 ^ 32) = BitVec.ofNat 32 n := BitVec.eq_of_toNat_eq (by simp)
    rw [State.withFetchWord, hword, step_readyToRun]
    exact execute_of_decode hdecode _

/-! ### Issue (R191) and NOP (R190) -/

/-- A write that the busy rules forbid sets HAZ alone (R250). -/
theorem busWrite_refused {s : State} {r : Reg} {v : Word} (hbusy : s.busy = true)
    (h : writableWhileBusy r v = false) : s.busWrite r v = s.flagHazard.answer .ack := by
  simp [State.busWrite, hbusy, h]

/-- Settles O5: the idle CMD write issues the word, and the busy one is refused. -/
theorem issueLatchesTheWord : Obligations.IssueLatchesTheWord := by
  intro s w
  obtain ⟨hwin, halign, hcmd⟩ := registerMap_listed (o := 0x00C) (r := .cmd) (by decide)
  refine ⟨fun hidle => ?_, fun v hpending => ?_⟩
  · exact ⟨(s.issue w).answer .ack, hostWrite_idle hidle w hwin halign hcmd rfl, rfl, rfl, rfl⟩
  · have hbusy : s.busy = true := by simp [s.busy_iff, hpending]
    exact ⟨s.flagHazard.answer .ack,
      (hostWrite_listed s w hwin halign hcmd rfl).trans (congrArg _ (busWrite_refused hbusy rfl)), rfl⟩

/-- Settles O9: NOP is `finish(OK)` and nothing else. -/
theorem nopOnlyCompletes : Obligations.NopOnlyCompletes := fun _ => rfl

/-! ### A pending command comes to its end (R192) -/

/-- A host read answers a next state or raises BusError at its address; it is never refused (R63). -/
theorem hostRead_answers (s : State) (addr size : Nat) :
    (∃ t, s.hostRead addr size = .next t) ∨ s.hostRead addr size = .fault (.busError addr) := by
  unfold State.hostRead State.readOffset
  repeat' split
  all_goals simp

/-- A host write answers a next state or raises BusError at its address; it is never refused (R63). -/
theorem hostWrite_answers (s : State) (addr size : Nat) (v : Word) :
    (∃ t, s.hostWrite addr size v = .next t) ∨ s.hostWrite addr size v = .fault (.busError addr) := by
  unfold State.hostWrite State.writeOffset
  repeat' split
  all_goals simp

/-- What a step can do while a command is pending and the oldest event is no reset: complete the command, or take a host
access that changes host-side fields alone or faults. -/
theorem step_of_pending_event {s : State} {w : Word} {e : Event} {rest : List Event} (hbusy : s.eng = .busy w)
    (hin : s.inputs = e :: rest) (hrst : e ≠ .rst) (hsoft : e.isSoftReset = false) :
    (∃ t, step s = .next t ∧ t.eng = .idle ∧ t.done = true) ∨
    (∃ b, step s = .next ({ s with inputs := rest }.withHostSide b)) ∨
    (∃ addr, step s = .fault (.busError addr)) := by
  rw [step_of_event hin]
  cases e with
  | read addr size =>
    obtain ⟨t, hnext⟩ | hfault := hostRead_answers { s with inputs := rest } addr size
    · obtain ⟨b, rfl⟩ := hostRead_hostSide hnext
      exact .inr (.inl ⟨b, hnext⟩)
    · exact .inr (.inr ⟨addr, hfault⟩)
  | write addr size v =>
    obtain ⟨t, hnext⟩ | hfault := hostWrite_answers { s with inputs := rest } addr size v
    · obtain ⟨b, rfl⟩ := hostWrite_hostSide (by simp [State.busy_iff, hbusy]) hsoft hnext
      exact .inr (.inl ⟨b, hnext⟩)
    · exact .inr (.inr ⟨addr, hfault⟩)
  | rst => exact absurd rfl hrst
  | engine =>
    obtain ⟨t, hturn, hidle, -, hdone, -⟩ := everyCommandCompletes { s with inputs := rest } w hbusy
    exact .inl ⟨t, hturn, hidle, hdone⟩

/-- After `k` steps the engine is idle with DONE set, or a host access has faulted within them. -/
def State.EndsAfter (s : State) (k : Nat) : Prop :=
  (∃ t, Host.Core.run Sys2Proof.core k s = .next t ∧ t.eng = .idle ∧ t.done = true) ∨
    (∃ addr, Host.Core.run Sys2Proof.core k s = .fault (.busError addr))

theorem run_succ_of_next {s u : State} (h : step s = .next u) (k : Nat) :
    Host.Core.run Sys2Proof.core (k + 1) s = Host.Core.run Sys2Proof.core k u := by
  simp only [Host.Core.run]
  rw [show Sys2Proof.core.step s = .next u from h]

theorem run_succ_of_fault {s : State} {r : Fault} (h : step s = .fault r) (k : Nat) :
    Host.Core.run Sys2Proof.core (k + 1) s = .fault r := by
  simp only [Host.Core.run]
  rw [show Sys2Proof.core.step s = .fault r from h]

theorem State.EndsAfter.of_step {s u : State} {k : Nat} (hu : u.EndsAfter k) (h : step s = .next u) :
    s.EndsAfter (k + 1) := by
  rwa [State.EndsAfter, run_succ_of_next h]

theorem State.endsAfter_one {s t : State} (h : step s = .next t) (hidle : t.eng = .idle) (hdone : t.done = true) :
    s.EndsAfter 1 :=
  .inl ⟨t, run_succ_of_next h 0, hidle, hdone⟩

/-- A pending command with events `l` before it ends within one step more than there are of them. -/
theorem State.endsAfter_of_pending {s : State} {w : Word} (l : List Event) (hbusy : s.eng = .busy w)
    (hin : s.inputs = l) (hl : ∀ e ∈ l, e ≠ .rst ∧ e.isSoftReset = false) :
    ∃ k, k ≤ l.length + 1 ∧ s.EndsAfter k := by
  induction l generalizing s with
  | nil =>
    obtain ⟨t, hturn, hidle, -, hdone, -⟩ := everyCommandCompletes s w hbusy
    have hstep : step s = .next t := by rw [step_of_pending hin hbusy, ← engineTurn_of_busy hbusy, hturn]
    exact ⟨1, Nat.le_refl 1, State.endsAfter_one hstep hidle hdone⟩
  | cons e rest ih =>
    obtain ⟨⟨hrst, hsoft⟩, hrest⟩ := List.forall_mem_cons.1 hl
    obtain ⟨t, hstep, hidle, hdone⟩ | ⟨b, hstep⟩ | ⟨addr, hfault⟩ := step_of_pending_event hbusy hin hrst hsoft
    · exact ⟨1, Nat.le_add_left 1 _, State.endsAfter_one hstep hidle hdone⟩
    · obtain ⟨k, hk, hend⟩ := ih (s := { s with inputs := rest }.withHostSide b) hbusy rfl hrest
      exact ⟨k + 1, Nat.succ_le_succ hk, hend.of_step hstep⟩
    · exact ⟨1, Nat.le_add_left 1 _, .inr ⟨addr, run_succ_of_fault hfault 0⟩⟩

/-- Settles O55: each event before the completion is one step. -/
theorem issuedCommandCompletes : Obligations.IssuedCommandCompletes := fun s _ hbusy hevents =>
  State.endsAfter_of_pending s.inputs hbusy rfl hevents

end Sys2Proof.Machine

/-! PROOFS. The facts about the interrupt output that the statement on exceptions (60_exceptions.md) turns on: what each
operation of the block makes of `irq`, and which agents' steps can raise it. -/

namespace Sys2Proof.Machine

/-! ### The level after each operation (R215) -/

@[simp] theorem State.answer_irq (s : State) (a : Response) : (s.answer a).irq = s.irq := rfl

@[simp] theorem State.flagHazard_irq (s : State) : s.flagHazard.irq = s.irq := rfl

@[simp] theorem State.takeReset_irq (s : State) : s.takeReset.irq = false := rfl

@[simp] theorem State.issue_irq (s : State) (w : Word) : (s.issue w).irq = false := rfl

@[simp] theorem State.writeCtrl_irq (s : State) (v : Word) : (s.writeCtrl v).irq = (s.done && v.getLsbD 1) := rfl

/-- A STATUS write acknowledges the completion where bit 1 is 1, and else leaves the level (R217). -/
@[simp] theorem State.clearW1C_irq (s : State) (v : Word) : (s.clearW1C v).irq = (s.irq && !v.getLsbD 1) := by
  simp only [State.irq, State.clearW1C_done, State.clearW1C_irqEn, Bool.and_right_comm]

/-! ### The engine's turn -/

/-- No command writes IRQ_EN, nor does the completion of an invalid word (R37). -/
theorem engineTurn_irqEn {s t : State} (h : s.engineTurn = .next t) : t.irqEn = s.irqEn := by
  obtain ⟨-, rfl⟩ | ⟨w, i, -, -, hexec⟩ | ⟨w, e, -, -, rfl⟩ := engineTurn_cases h
  · rfl
  · obtain ⟨⟨-, hirqEn, -⟩, -⟩ := commandsWriteOnlyTheirOutputs i s t hexec
    exact hirqEn
  · exact State.finish_irqEn s _

/-- The engine's turn completes the pending command, and the level is IRQ_EN from then on (R215, R216). -/
theorem engineTurn_completes {s : State} {w : Word} (hbusy : s.eng = .busy w) :
    ∃ t, s.engineTurn = .next t ∧ t.eng = .idle ∧ t.done = true ∧ t.irq = s.irqEn := by
  obtain ⟨t, hturn, hidle, -, hdone, -⟩ := everyCommandCompletes s w hbusy
  exact ⟨t, hturn, hidle, hdone, by rw [State.irq, hdone, engineTurn_irqEn hturn, Bool.true_and]⟩

/-- The engine's turn raises `irq` only by a completion. -/
theorem engineTurn_raises_irq {s t : State} (h : s.engineTurn = .next t) (hlow : s.irq = false) (hhigh : t.irq = true) :
    ∃ w, s.eng = .busy w ∧ t.eng = .idle ∧ t.done = true := by
  cases heng : s.eng with
  | idle =>
    rw [State.engineTurn, heng] at h
    obtain rfl := Host.Outcome.next.inj h
    simp [hlow] at hhigh
  | busy w =>
    obtain ⟨u, hturn, hidle, hdone, -⟩ := engineTurn_completes heng
    obtain rfl := Host.Outcome.next.inj (h.symm.trans hturn)
    exact ⟨w, rfl, hidle, hdone⟩

/-! ### The host's accesses -/

/-- No host read moves `irq` (R67). -/
theorem hostRead_irq {s t : State} {addr size : Nat} (h : s.hostRead addr size = .next t) : t.irq = s.irq := by
  obtain ⟨-, rfl⟩ | ⟨o, r, -, -, -, -, -, rfl⟩ := hostRead_cases h
  · rfl
  · obtain ⟨-, -, hdraw⟩ | ⟨-, hvalue⟩ := busRead_cases s r
    · rw [hdraw]; rfl
    · rw [hvalue]; rfl

/-- Of all register writes but a soft reset, only one to CTRL raises `irq`: one that sets IRQ_EN while DONE = 1. -/
theorem State.writeReg_raises_irq {s : State} {r : Reg} {v : Word} (hctrl : r = .ctrl → v.getLsbD 3 = false)
    (hlow : s.irq = false) (hhigh : (s.writeReg r v).irq = true) :
    r = .ctrl ∧ s.done = true ∧ v.getLsbD 1 = true := by
  cases r with
  | ctrl =>
    rw [State.writeReg, hctrl rfl] at hhigh
    exact ⟨rfl, by simpa using hhigh⟩
  | status => simp [State.writeReg, hlow] at hhigh
  | cmd => simp [State.writeReg] at hhigh
  | _ =>
    have hsame : s.irq = true := hhigh
    simp [hlow] at hsame

/-- A host write raises `irq` only as a CTRL write that sets IRQ_EN while DONE = 1. -/
theorem hostWrite_raises_irq {s t : State} {addr size : Nat} {v : Word} (h : s.hostWrite addr size v = .next t)
    (hlow : s.irq = false) (hhigh : t.irq = true) :
    s.done = true ∧ addr = Config.pBase + 0x004 ∧ size = 4 ∧ v.getLsbD 1 = true := by
  obtain ⟨-, rfl⟩ | ⟨-, -, rfl⟩ | ⟨-, rfl⟩ | ⟨o, r, rfl, -, -, rfl, hr, -, -, hctrl, rfl⟩ := hostWrite_effects h
  · simp [hlow] at hhigh
  · simp [hlow] at hhigh
  · simp at hhigh
  · obtain ⟨rfl, hdone, hbit⟩ := State.writeReg_raises_irq hctrl hlow hhigh
    obtain rfl := regAt_ctrl hr
    exact ⟨hdone, rfl, rfl, hbit⟩

/-! ### Every step -/

/-- What raises `irq`, by the agent whose step it is: the engine's completion, or the host's CTRL write. -/
theorem step_raises_irq {s t : State} (h : step s = .next t) (hlow : s.irq = false) (hhigh : t.irq = true) :
    (∃ w, s.eng = .busy w ∧ t.eng = .idle ∧ t.done = true) ∨
    (s.done = true ∧ ∃ v rest, s.inputs = .write (Config.pBase + 0x004) 4 v :: rest ∧ v.getLsbD 1 = true) := by
  obtain ⟨-, hturn⟩ | ⟨e, rest, hin, ⟨addr, size, rfl, hread⟩ | ⟨addr, size, v, rfl, hwrite⟩ | ⟨rfl, rfl⟩ |
    ⟨rfl, hturn⟩⟩ := step_cases h
  · exact .inl (engineTurn_raises_irq hturn hlow hhigh)
  · have hsame : s.irq = true := (hostRead_irq hread).symm.trans hhigh
    simp [hlow] at hsame
  · obtain ⟨hdone, rfl, rfl, hbit⟩ := hostWrite_raises_irq hwrite hlow hhigh
    exact .inr ⟨hdone, v, rest, hin, hbit⟩
  · simp at hhigh
  · exact .inl (engineTurn_raises_irq (s := { s with inputs := rest }) hturn hlow hhigh)

/-- Settles O48: the level after each event of R215 is that of the operation the event is, and `step_raises_irq` names
the steps that raise it. -/
theorem irqFollowsDoneAndEnable : Obligations.IrqFollowsDoneAndEnable := by
  refine ⟨fun s v w => ⟨rfl, fun hbusy => ?_, fun hack => ?_, fun hidle => ?_, s.takeReset_irq, fun hidle hbit => ?_⟩,
    fun s t => step_raises_irq⟩
  · obtain ⟨t, hturn, -, hdone, hirq⟩ := engineTurn_completes hbusy
    exact ⟨t, hturn, hdone, hirq⟩
  · refine ⟨(s.clearW1C v).answer .ack, ?_, by simp [hack]⟩
    rw [hostWrite_listed s v (by decide) (by decide) (r := .status) rfl rfl, busWrite_writable rfl]
    rfl
  · exact ⟨(s.issue v).answer .ack, hostWrite_idle hidle v (r := .cmd) (by decide) (by decide) rfl rfl, rfl⟩
  · refine ⟨(s.writeCtrl v).answer .ack, ?_, rfl, rfl⟩
    rw [hostWrite_idle hidle v (by decide) (by decide) (r := .ctrl) rfl rfl, State.writeReg, hbit]
    rfl

end Sys2Proof.Machine

/-! PROOFS. The facts that the statements on reset and the busy rules (70_reset_and_hazards.md) turn on: at which
offsets the rules single a register out, what a refused access does, and that a reset forgets the state before it. -/

namespace Sys2Proof.Machine

/-! ### The offsets of the registers that the access and busy rules single out -/

/-- The read-only registers are ID and the RX_ registers (R64). -/
theorem regAt_readOnly {o : Nat} {r : Reg} (hr : regAt o = some r) (hro : r.readOnly = true) :
    o = 0x000 ∨ 0x040 ≤ o ∧ o ≤ 0x060 := by
  have hrows : ∀ q ∈ registerMap, q.2.readOnly = true → q.1 = 0x000 ∨ 0x040 ≤ q.1 ∧ q.1 ≤ 0x060 := by decide
  obtain ⟨k, rfl⟩ | ⟨k, rfl⟩ | hmem := regAt_cases hr
  · cases hro
  · cases hro
  · exact hrows _ hmem hro

/-- The registers that read as they are while busy stand at the first three offsets (R251). -/
theorem regAt_readableWhileBusy {o : Nat} {r : Reg} (hr : regAt o = some r) (h : r.readableWhileBusy = true) :
    o ≤ 0x008 := by
  have hrows : ∀ q ∈ registerMap, q.2.readableWhileBusy = true → q.1 ≤ 0x008 := by decide
  obtain ⟨k, rfl⟩ | ⟨k, rfl⟩ | hmem := regAt_cases hr
  · cases h
  · cases h
  · exact hrows _ hmem h

/-- A write that takes effect while busy goes to STATUS, or to CTRL with bit 3 = 1 (R250). -/
theorem regAt_writableWhileBusy {o : Nat} {r : Reg} {v : Word} (hr : regAt o = some r)
    (h : writableWhileBusy r v = true) : o = 0x008 ∨ o = 0x004 ∧ v.getLsbD 3 = true := by
  cases r with
  | status => exact .inl (regAt_status hr)
  | ctrl => exact .inr ⟨regAt_ctrl hr, h⟩
  | _ => cases h

/-! ### Refused accesses (R250, R251) -/

theorem State.busy_of_pending {s : State} {w : Word} (h : s.eng = .busy w) : s.busy = true := by
  simp [s.busy_iff, h]

/-- A read that the busy rules forbid sets HAZ and draws a free word (R251). -/
theorem busRead_refused {s : State} {r : Reg} (hbusy : s.busy = true) (h : r.readableWhileBusy = false) :
    s.busRead r = { s.flagHazard with draws := s.draws + 1 }.answer (.data (Config.busyReadDraw s.draws)) := by
  simp [State.busRead, hbusy, h]

/-- Settles O49: the ranges of the statement list no read-only register, and no write that takes effect while busy. -/
theorem busyWritesAreIgnored : Obligations.BusyWritesAreIgnored := by
  intro s w v o hpending h4 ho
  obtain ⟨r, hr⟩ := Option.isSome_iff_exists.1 ((regAt_isSome_iff h4).2 (by omega))
  have hwritable : r.readOnly = false := by
    by_contra hro
    have := regAt_readOnly hr (Bool.eq_true_of_not_eq_false hro)
    omega
  have hrefused : writableWhileBusy r v = false := by
    by_contra hallowed
    obtain rfl | ⟨rfl, hbit⟩ := regAt_writableWhileBusy hr (Bool.eq_true_of_not_eq_false hallowed)
    · omega
    · obtain ⟨-, hclear⟩ | hrange := ho
      · rw [hbit] at hclear
        contradiction
      · omega
  rw [hostWrite_listed s v (by omega) h4 hr hwritable, busWrite_refused (State.busy_of_pending hpending) hrefused]
  rfl

/-- A read of ID, CTRL or STATUS answers the current value, busy or not (R251). -/
theorem hostRead_readable (s : State) {o : Nat} {r : Reg} (hmem : (o, r) ∈ registerMap)
    (h : r.readableWhileBusy = true) :
    s.hostRead (Config.pBase + o) 4 = .next (s.answer (.data (s.regValue r))) := by
  obtain ⟨ho, h4, hr⟩ := registerMap_listed hmem
  rw [hostRead_listed s ho h4 hr, busRead_readable h]

/-- Settles O50: the offsets of the last clause lie past the three registers that read as they are. -/
theorem busyReadsAreFree : Obligations.BusyReadsAreFree := by
  intro s w o hpending h4
  refine ⟨?_, ?_, ?_, fun ho => ?_⟩
  · rintro rfl
    exact hostRead_readable s (r := .id) (by decide) rfl
  · rintro rfl
    exact hostRead_readable s (r := .ctrl) (by decide) rfl
  · rintro rfl
    exact hostRead_readable s (r := .status) (by decide) rfl
  · obtain ⟨r, hr⟩ := Option.isSome_iff_exists.1 ((regAt_isSome_iff h4).2 (by omega))
    have hrefused : r.readableWhileBusy = false := by
      by_contra hallowed
      have := regAt_readableWhileBusy hr (Bool.eq_true_of_not_eq_false hallowed)
      omega
    refine ⟨Config.busyReadDraw s.draws, s.draws + 1, ?_⟩
    rw [hostRead_listed s (by omega) h4 hr, busRead_refused (State.busy_of_pending hpending) hrefused]
    rfl

/-! ### Reset (R240-R242) -/

/-- After a reset a buffer byte is the draw of that reset, whatever stood there (R242). -/
@[simp] theorem State.takeReset_byteAt (s : State) (a : Nat) :
    s.takeReset.byteAt a = Config.bufferDraw (s.resets + 1) a := rfl

/-- The step that takes a reset event. -/
theorem step_rst {s : State} {rest : List Event} (h : s.inputs = .rst :: rest) :
    step s = .next { s with inputs := rest }.takeReset :=
  step_of_event h

/-- A CTRL write with bit 3 = 1 is a reset, busy or not (R241). -/
theorem hostWrite_softReset (s : State) {v : Word} (h : v.getLsbD 3 = true) :
    s.hostWrite (Config.pBase + 0x004) 4 v = .next (s.takeReset.answer .ack) := by
  obtain ⟨ho, h4, hr⟩ := registerMap_listed (o := 0x004) (r := .ctrl) (by decide)
  rw [hostWrite_listed s v ho h4 hr rfl, busWrite_writable (r := .ctrl) h, State.writeReg, if_pos h]

/-- The step that takes a soft reset. -/
theorem step_softReset {s : State} {v : Word} {rest : List Event}
    (h : s.inputs = .write (Config.pBase + 0x004) 4 v :: rest) (hbit : v.getLsbD 3 = true) :
    step s = .next ({ s with inputs := rest }.takeReset.answer .ack) :=
  (step_of_event h).trans (hostWrite_softReset _ hbit)

/-- Settles O57: both events are `takeReset`, which keeps of the state before it only the model's own fields. -/
theorem resetAtAnyTime : Obligations.ResetAtAnyTime := by
  intro s v rest hbit
  refine ⟨step_rst rfl, step_softReset rfl hbit, fun s' t t' a hresets ht ht' => ?_⟩
  obtain rfl := Host.Outcome.next.inj ((step_rst rfl).symm.trans ht)
  obtain rfl := Host.Outcome.next.inj ((step_rst rfl).symm.trans ht')
  rw [State.takeReset_byteAt, State.takeReset_byteAt, hresets]

/-- Settles O56: each register at its reset value; the three CFG_ registers at the parameters, which stay open. -/
theorem resetVector : Obligations.ResetVector := by
  refine ⟨rfl, ?ctrl, ?status, rfl, rfl, rfl, rfl, ?zero, rfl, rfl, rfl, rfl⟩
  case ctrl => decide
  case status => decide
  case zero => decide

/-- Settles O58: no buffer byte is written yet, no command is pending, and the key and RX_PLEN are 0 (R240). -/
theorem resetMeetsInvariant : Obligations.ResetMeetsInvariant where
  mem_wf := rfl
  busy_not_done := fun _ => rfl
  key_erased := fun _ => rfl
  rx_bounded := Nat.zero_le 120

end Sys2Proof.Machine
